-- ==== Sys2Proof/Word.lean ====
section
/-! DEFINITION. The words of the block: bytes of the device space and 32-bit words of the host window (R9). -/

namespace Sys2Proof

/-- A device register, a buffer cell or an 8-bit field of a command word (R9, R71). -/
abbrev Byte := BitVec 8

/-- A command word or a host window register (R9, R100). -/
abbrev Word := BitVec 32

end Sys2Proof
end

