-- ==== Sys2Proof/Config.lean ====
section
/-! DEFINITION. The implementation parameters of R8 and the free values: opaque constants that nothing in Lean can
evaluate, one for each thing the spec leaves open. -/

namespace Sys2Proof

/-- How the bus answers one transaction (R78): never (R92), with `Err`, or with `Ok` and, for a read, bytes. -/
inductive BusReply where
  | never
  | err
  | ok (bytes : List Byte)
deriving DecidableEq, Repr, Inhabited

/-- The parameters of R8, with the spec's defaults. REG_PTR_BITS is fixed at 8 and needs no field. `failures` is
SimDevice's failure schedule (R79): the indices of the transactions that return `Err`, the first transaction having
index 1 (log 10). -/
structure Config where
  devAddr : BitVec 7 := 0x20
  busClockHz : Nat := 100000
  settleMs : Nat := 100
  maxXfer : Nat := 64
  simDevice : Bool := false
  failures : List Nat := []
deriving DecidableEq, Repr

/-- Every parameter at its default of R8. -/
def Config.standard : Config := {}

/-- The legal values of R8. DEV_ADDR is legal by its width. -/
def Config.legal (c : Config) : Bool :=
  decide (6 ≤ c.maxXfer) && decide (c.maxXfer ≤ 255) && decide (100 ≤ c.settleMs) && decide (0 < c.busClockHz)

/-- The bus's answer to a transaction for which `State.bus` lists none (R78), at the draw's number. DESIGN CHOICE,
safe (log 6). -/
opaque Config.freeReply : Nat → BusReply

/-- A byte the spec leaves at any value (R78, R80, R131), at the draw's number. DESIGN CHOICE, safe (log 5, 6, 9, 11). -/
opaque Config.freeByte : Nat → Byte

/-- What the simulated device holds at an offset nothing has written (R57: contents unknown). DESIGN CHOICE, safe
(log 8). -/
opaque Config.deviceByte : Nat → Byte

/-- Which buffer a window offset names when MAX_XFER > 64 makes TXBUF and RXBUF overlap (R32): `true` for RXBUF.
DESIGN CHOICE, safe (log 15). -/
opaque Config.overlapIsRx : Nat → Bool

/-- The host's rendering of RES_NUM/RES_DEN as a binary float (R8, R150), as the bits of whatever format the host
uses. No law is assumed (log 20). -/
opaque Config.toFloat : Word → Word → List Bool

end Sys2Proof
end

