-- ==== Sys2Proof/Syntax.lean ====
section
/-! DEFINITION. The eighteen commands of the opcode map (R102), the three formats (R101) and the cause codes' names
(R211). -/

namespace Sys2Proof

/-- The commands, one constructor for each row of spec/opcode_table.json. -/
inductive Instr where
  /-- WRREG (R130): write LEN bytes of TXBUF from device register REG on. -/
  | wrreg (reg len : Byte)
  /-- RDREG (R131): read LEN bytes from device register REG on into RXBUF. -/
  | rdreg (reg len : Byte)
  /-- DECCOORD (R141): decode the coordinate in RXBUF[0..5]. -/
  | deccoord
  /-- DECTRIPLE (R144): decode the scaled triple in RXBUF[0..2]. -/
  | dectriple
  /-- SETMODE (R160): set the GNSS mode after checking its range. -/
  | setmode (mode : Byte)
  /-- GETMODE (R182). -/
  | getmode
  /-- PWRON (R161). -/
  | pwron
  /-- PWROFF (R162). -/
  | pwroff
  /-- RGBON (R163). -/
  | rgbon
  /-- RGBOFF (R164). -/
  | rgboff
  /-- GETSATS (R183). -/
  | getsats
  /-- GETDATE (R184). -/
  | getdate
  /-- GETTIME (R185). -/
  | gettime
  /-- GETLAT (R186). -/
  | getlat
  /-- GETLON (R187). -/
  | getlon
  /-- GETALT (R188). -/
  | getalt
  /-- GETCOG (R189). -/
  | getcog
  /-- GETSOG (R190). -/
  | getsog
deriving DecidableEq, Repr

/-- The formats of R101. -/
inductive Format where
  | x
  | m
  | n
deriving DecidableEq, Repr

/-- The causes of a command fault (R211). -/
inductive Cause where
  | illegalOpcode
  | reservedBits
  | badLength
  | badRange
  | notReady
deriving DecidableEq, Repr

end Sys2Proof
end

