-- ==== Sys2Proof/WellFormed.lean ====
section
/-! DEFINITION. Which commands pass the prologue's operand checks (R110). Every 8-bit operand is encodable (R105, R108),
so these are checks of meaning, not of encoding; SETMODE's range is no such check (R105). -/

namespace Sys2Proof

/-- LEN is 1 to MAX_XFER in format X (R104). -/
def Instr.lengthOk (maxXfer : Nat) : Instr → Bool
  | .wrreg _ len | .rdreg _ len => decide (1 ≤ len.toNat) && decide (len.toNat ≤ maxXfer)
  | .deccoord | .dectriple | .setmode _ | .getmode | .pwron | .pwroff | .rgbon | .rgboff | .getsats | .getdate
  | .gettime | .getlat | .getlon | .getalt | .getcog | .getsog => true

/-- REG + LEN stays inside the 256-byte device space in format X (R76). -/
def Instr.rangeOk : Instr → Bool
  | .wrreg reg len | .rdreg reg len => decide (reg.toNat + len.toNat ≤ 256)
  | .deccoord | .dectriple | .setmode _ | .getmode | .pwron | .pwroff | .rgbon | .rgboff | .getsats | .getdate
  | .gettime | .getlat | .getlon | .getalt | .getcog | .getsog => true

/-- The command passes BAD_LENGTH and BAD_RANGE (R110). -/
def Instr.wellFormed (maxXfer : Nat) (i : Instr) : Bool := i.lengthOk maxXfer && i.rangeOk

end Sys2Proof
end

