-- ==== Sys2Proof/Decode.lean ====
section
/-! DEFINITION. The command word (R100), its decoder (R101, R102, R106, R107) and its encoder. The decoder is total: it
answers with a command or with the cause of the refusal. LEN and range are the meaning's checks (R104, R110; log 17). -/

namespace Sys2Proof

/-- OP, bits [31:24] (R100). -/
def opField (w : Word) : Byte := w.extractLsb' 24 8

/-- REG, bits [23:16] (R100, R103). -/
def regField (w : Word) : Byte := w.extractLsb' 16 8

/-- ARG, bits [15:8] (R100, R104, R105). -/
def argField (w : Word) : Byte := w.extractLsb' 8 8

/-- RSV, bits [7:0] (R100). -/
def rsvField (w : Word) : Byte := w.extractLsb' 0 8

/-- A row of the opcode map: its format's way to build the command from the fields. -/
inductive Row where
  | x (command : Byte → Byte → Instr)
  | m (command : Byte → Instr)
  | n (command : Instr)

/-- The opcode map (R102); every OP it does not list is reserved (R106). -/
def rowOf (op : Byte) : Option Row :=
  match op.toNat with
  | 0x01 => some (.x .wrreg)
  | 0x02 => some (.x .rdreg)
  | 0x10 => some (.n .deccoord)
  | 0x11 => some (.n .dectriple)
  | 0x20 => some (.m .setmode)
  | 0x21 => some (.n .getmode)
  | 0x22 => some (.n .pwron)
  | 0x23 => some (.n .pwroff)
  | 0x24 => some (.n .rgbon)
  | 0x25 => some (.n .rgboff)
  | 0x26 => some (.n .getsats)
  | 0x27 => some (.n .getdate)
  | 0x28 => some (.n .gettime)
  | 0x29 => some (.n .getlat)
  | 0x2A => some (.n .getlon)
  | 0x2B => some (.n .getalt)
  | 0x2C => some (.n .getcog)
  | 0x2D => some (.n .getsog)
  | _ => none

/-- What the decoder answers: a command, or the cause for which the word is none. -/
inductive Decoded where
  | command (i : Instr)
  | reject (c : Cause)
deriving DecidableEq, Repr

/-- The encoding checks of the prologue in their order (R110): ILLEGAL_OPCODE (R106), then RESERVED_BITS (R107). -/
def decode (w : Word) : Decoded :=
  match rowOf (opField w) with
  | none => .reject .illegalOpcode
  | some row =>
    if rsvField w ≠ 0 then .reject .reservedBits
    else match row with
      | .x command => .command (command (regField w) (argField w))
      | .m command => if regField w ≠ 0 then .reject .reservedBits else .command (command (argField w))
      | .n command => if regField w ≠ 0 ∨ argField w ≠ 0 then .reject .reservedBits else .command command

/-- The command word of its fields (R100); RSV is 0. -/
def commandWord (op reg arg : Byte) : Word := op ++ reg ++ arg ++ (0 : Byte)

/-- The command's OP (R102). -/
def Instr.opcode : Instr → Byte
  | .wrreg _ _ => 0x01
  | .rdreg _ _ => 0x02
  | .deccoord => 0x10
  | .dectriple => 0x11
  | .setmode _ => 0x20
  | .getmode => 0x21
  | .pwron => 0x22
  | .pwroff => 0x23
  | .rgbon => 0x24
  | .rgboff => 0x25
  | .getsats => 0x26
  | .getdate => 0x27
  | .gettime => 0x28
  | .getlat => 0x29
  | .getlon => 0x2A
  | .getalt => 0x2B
  | .getcog => 0x2C
  | .getsog => 0x2D

/-- The command's format (R102). -/
def Instr.format : Instr → Format
  | .wrreg _ _ | .rdreg _ _ => .x
  | .setmode _ => .m
  | .deccoord | .dectriple | .getmode | .pwron | .pwroff | .rgbon | .rgboff | .getsats | .getdate | .gettime
  | .getlat | .getlon | .getalt | .getcog | .getsog => .n

/-- The REG field the command is encoded with: its offset in format X, else 0 (R101). -/
def Instr.regOperand : Instr → Byte
  | .wrreg reg _ | .rdreg reg _ => reg
  | .setmode _ | .deccoord | .dectriple | .getmode | .pwron | .pwroff | .rgbon | .rgboff | .getsats | .getdate
  | .gettime | .getlat | .getlon | .getalt | .getcog | .getsog => 0

/-- The ARG field the command is encoded with: LEN, MODE or 0 (R101). -/
def Instr.argOperand : Instr → Byte
  | .wrreg _ len | .rdreg _ len => len
  | .setmode mode => mode
  | .deccoord | .dectriple | .getmode | .pwron | .pwroff | .rgbon | .rgboff | .getsats | .getdate | .gettime
  | .getlat | .getlon | .getalt | .getcog | .getsog => 0

/-- The word of a command (R100 to R102). -/
def encode (i : Instr) : Word := commandWord i.opcode i.regOperand i.argOperand

/-- The command word whose low `nbits` bits are those of `w`, as the opcode table numbers them: bit 0 least
significant. A command is written to CMD as one whole word, so no byte order enters (R32). -/
def tableWord (nbits w : Nat) : Word := BitVec.ofNat 32 (w % 2 ^ nbits)

/-- The command the decoder reads from an opcode-table word. -/
def decodeTableWord (nbits w : Nat) : Option Instr :=
  match decode (tableWord nbits w) with
  | .command i => some i
  | .reject _ => none

end Sys2Proof
end

