-- ==== Sys2Proof/Machine/State.lean ====
section
/-! DEFINITION. The machine's state as plain data (10_state.md), the reasons a step can stop (none is ever raised), and the
state after reset (R57). -/

namespace Sys2Proof.Machine

/-- Why a step could stop with a fault. There is no such reason, so the type has no constructor: bus failures never stop
the block (R133), command faults are reported in STATUS and are next states (R210, R212), and model faults are recorded
in `State.modelFaults` while the machine goes on (R216 to R219; log 26). -/
inductive Fault where
deriving DecidableEq, Repr

/-- Why a step could be refused. Safe: a refusal proves nothing about the hardware. -/
inductive Refusal where
  /-- Raised by an arm of `exec` whose command has no meaning yet; no arm raises it. Safe. -/
  | notModelled (mnemonic : String)
deriving DecidableEq, Repr

/-- A register or cell that can hold no value (R11): the bits it holds, and whether they count as a value. `valid = false`
is the spec's ⊥: never written since reset, or invalidated by a rule. -/
structure Slot (w : Nat) where
  bits : BitVec w
  valid : Bool
deriving DecidableEq, Repr

/-- A slot that holds the value `v`. -/
def Slot.of {w : Nat} (v : BitVec w) : Slot w := ⟨v, true⟩

/-- A slot that holds ⊥, its bits being `v`. -/
def Slot.invalid {w : Nat} (v : BitVec w) : Slot w := ⟨v, false⟩

/-- ⊥ as reset leaves it (R57). Its bits are 0: DESIGN CHOICE, unsafe (log 3). -/
def Slot.unwritten {w : Nat} : Slot w := ⟨0, false⟩

/-- STATUS (R35). Bits [7:6] and [31:12] read 0 at all times (R42) and are not stored. -/
structure Status where
  busy : Bool
  ready : Bool
  ioerr : Bool
  defaulted : Bool
  rejected : Bool
  fault : Bool
  cause : BitVec 4
deriving DecidableEq, Repr

/-- The model fault record (R54): which of the four model faults have been recorded. -/
structure ModelFaults where
  settleHazard : Bool
  hostWhileBusy : Bool
  noValue : Bool
  hostMisaligned : Bool
deriving DecidableEq, Repr

/-- No model fault recorded. -/
def ModelFaults.none : ModelFaults := ⟨false, false, false, false⟩

/-- How a bus write ended (R12). -/
inductive WriteResult where
  | ok
  | err
deriving DecidableEq, Repr

/-- How a bus read ended, with the bytes read (R12). -/
inductive ReadResult where
  | ok (bytes : List Byte)
  | err
deriving DecidableEq, Repr

/-- The events of the history (R12, R13, R55, R247). -/
inductive Event where
  | busWrite (addr : BitVec 7) (reg : Byte) (bytes : List Byte) (result : WriteResult)
  | busRead (addr : BitVec 7) (reg : Byte) (n : Nat) (result : ReadResult)
  | settle (ms : Nat)
  | delay (ms : Nat)
deriving DecidableEq, Repr

/-- What the host can do (R4, R109): a window write or read of `width` bytes at a byte offset (R84), a `Delay` (R247),
or `wait` (R109). -/
inductive HostAction where
  | write (offset width : Nat) (value : Word)
  | read (offset width : Nat)
  | delay (ms : Nat)
  | wait
deriving DecidableEq, Repr

/-- Whose turn it is (log 1, log 13): the host acts, the engine acts, or reset is asserted with its draw `init_ok`
(R240, R241). -/
inductive Turn where
  | host (action : HostAction)
  | engine
  | reset (initOk : Bool)
deriving DecidableEq, Repr

/-- The device register file's known bytes (R56, R71), one cell for each offset that has been written, offsets strictly
rising. An offset not listed holds no known value (log 8). -/
abbrev Memory := List Host.Cell

/-- The state of the block, of the simulated device and of the inputs still to come. -/
structure State where
  /-- The implementation parameters (R8), fixed for the run (log 19). -/
  cfg : Config
  /-- CMD (R34). -/
  cmd : Word
  /-- STATUS (R35); STATUS.BUSY is the engine's IDLE/BUSY (R33). -/
  status : Status
  /-- RES_NUM (R43). -/
  resNum : Slot 32
  /-- RES_DEN (R44). -/
  resDen : Slot 32
  /-- RES_CHR (R45). -/
  resChr : Slot 8
  /-- RES_F0 (R46). -/
  resF0 : Slot 16
  /-- RES_F1 (R47). -/
  resF1 : Slot 8
  /-- RES_F2 (R47). -/
  resF2 : Slot 8
  /-- DEV_ADDR (R48). -/
  devAddr : BitVec 7
  /-- TXBUF, MAX_XFER cells (R49). -/
  txbuf : List (Slot 8)
  /-- RXBUF, MAX_XFER cells (R50). -/
  rxbuf : List (Slot 8)
  /-- SETTLE_OWED (R53). -/
  settleOwed : Bool
  /-- The model fault record (R54). -/
  modelFaults : ModelFaults
  /-- The event history, oldest first (R55). -/
  history : List Event
  /-- The simulated device's registers (R56, R79). -/
  device : Memory
  /-- Model's own: the bus's pending answers, next first (R78; log 6). -/
  bus : List BusReply
  /-- Model's own: the turns still to be taken, next first (log 1). -/
  agenda : List Turn
  /-- Model's own: the words the host's reads returned, oldest first (log 14). -/
  replies : List Word
  /-- Model's own: how many bus transactions have taken place (R79; log 10). -/
  txns : Nat
  /-- Model's own: how many free values have been drawn (log 6). -/
  draws : Nat
deriving DecidableEq, Repr

/-- The block as reset leaves it (R57, R240) under the parameters `cfg`, construction having drawn `initOk` (R241), with
nothing pending and no known device byte. -/
def State.constructed (cfg : Config) (initOk : Bool) : State where
  cfg := cfg
  cmd := 0x00000000
  status := ⟨false, initOk, false, false, false, false, 0⟩
  resNum := .unwritten
  resDen := .unwritten
  resChr := .unwritten
  resF0 := .unwritten
  resF1 := .unwritten
  resF2 := .unwritten
  devAddr := cfg.devAddr
  txbuf := List.replicate cfg.maxXfer .unwritten
  rxbuf := List.replicate cfg.maxXfer .unwritten
  settleOwed := false
  modelFaults := .none
  history := []
  device := []
  bus := []
  agenda := []
  replies := []
  txns := 0
  draws := 0

/-- The machine right after reset (R57), every parameter at its default (R8), construction having succeeded: the other
draw of `init_ok` is `State.constructed Config.standard false` and the turn `Turn.reset false`. DESIGN CHOICE, unsafe
(log 2). -/
def State.reset : State := .constructed .standard true

end Sys2Proof.Machine
end

