-- ==== Sys2Proof/Machine/Flags.lean ====
section
/-! DEFINITION. STATUS: what the prologue, `raise Fault`, the epilogue and the command rules do to its fields (R35 to R42,
R52), the cause codes (R211) and the word the host reads. -/

namespace Sys2Proof.Machine

/-- The code of a cause in STATUS.CAUSE (R211). -/
def causeCode (c : Cause) : BitVec 4 :=
  match c with
  | .illegalOpcode => 1
  | .reservedBits => 2
  | .badLength => 3
  | .badRange => 4
  | .notReady => 5

/-- The prologue's clearing of IOERR, DEFAULTED, REJECTED, FAULT and CAUSE (R110). -/
def Status.cleared (st : Status) : Status :=
  { st with ioerr := false, defaulted := false, rejected := false, fault := false, cause := 0 }

/-- FAULT and CAUSE as `raise Fault` sets them, together (R41). -/
def Status.faulted (c : Cause) (st : Status) : Status := { st with fault := true, cause := causeCode c }

/-- IOERR set by a failed transaction (R38). -/
def Status.failed (st : Status) : Status := { st with ioerr := true }

/-- IOERR and DEFAULTED set by a query whose read failed (R39, R181). -/
def Status.substituted (st : Status) : Status := { st with ioerr := true, defaulted := true }

/-- REJECTED set by SETMODE (R40). -/
def Status.refusedMode (st : Status) : Status := { st with rejected := true }

/-- BUSY set by the Issue step (R33, R36). -/
def Status.issued (st : Status) : Status := { st with busy := true }

/-- BUSY cleared by the epilogue (R111). -/
def Status.completed (st : Status) : Status := { st with busy := false }

/-- The value of one bit. -/
def bitValue (b : Bool) : Nat := if b then 1 else 0

/-- STATUS as the host reads it (R35); the reserved bits are 0 (R42). -/
def Status.toWord (st : Status) : Word :=
  BitVec.ofNat 32 (bitValue st.busy + 2 * bitValue st.ready + 4 * bitValue st.ioerr + 8 * bitValue st.defaulted
    + 16 * bitValue st.rejected + 32 * bitValue st.fault + 256 * st.cause.toNat)

end Sys2Proof.Machine
end

