-- ==== Sys2Proof/Machine/Operands.lean ====
section
/-! DEFINITION. The device address map (R73), the control constants (R165, R166), the operand checks of format X (R110) and
the buffer cells as operands (R49, R50). -/

namespace Sys2Proof.Machine

/-- year-high, the date's first register (R73). -/
def regYearHigh : Byte := 0x00

/-- hour, the time's first register (R73). -/
def regHour : Byte := 0x04

/-- latitude-start (R73). -/
def regLatitude : Byte := 0x07

/-- longitude-start (R73). -/
def regLongitude : Byte := 0x0D

/-- satellites-used (R73). -/
def regSatellites : Byte := 0x13

/-- altitude-high (R73). -/
def regAltitude : Byte := 0x14

/-- speed-high (R73). -/
def regSpeed : Byte := 0x17

/-- course-high (R73). -/
def regCourse : Byte := 0x1A

/-- gnss-mode (R73). -/
def regGnssMode : Byte := 0x22

/-- sleep-mode (R73). -/
def regSleepMode : Byte := 0x23

/-- rgb-mode (R73). -/
def regRgbMode : Byte := 0x24

/-- Power enable (R166). -/
def powerEnable : Byte := 0x00

/-- Power disable (R166). -/
def powerDisable : Byte := 0x01

/-- RGB on (R166). -/
def rgbOn : Byte := 0x05

/-- RGB off (R166). -/
def rgbOff : Byte := 0x02

/-- 'S', the default hemisphere of GETLAT (R181, R186), by its ASCII code of R10: PRESUMED, unsafe (log 21). -/
def letterS : Byte := 0x53

/-- 'W', the default hemisphere of GETLON (R181, R187), by its ASCII code of R10: PRESUMED, unsafe (log 21). -/
def letterW : Byte := 0x57

/-- The modes SETMODE accepts, 1 to 7 (R160, R165). -/
def modeAccepted (mode : Byte) : Bool := decide (1 ≤ mode.toNat) && decide (mode.toNat ≤ 7)

/-- The prologue's checks of REG and LEN in format X, in their order (R110): BAD_LENGTH (R104), then BAD_RANGE (R76). -/
def transferFault (maxXfer : Nat) (reg len : Byte) : Option Cause :=
  if len.toNat = 0 ∨ maxXfer < len.toNat then some .badLength
  else if 256 < reg.toNat + len.toNat then some .badRange
  else none

/-- A raw write of LEN bytes at REG covers gnss-mode, sleep-mode or rgb-mode (R130). -/
def touchesControl (reg len : Byte) : Bool :=
  decide (reg.toNat ≤ 0x24) && decide (0x22 ≤ reg.toNat + len.toNat - 1)

/-- Cell `i` of a buffer; beyond the buffer there is no cell, read as ⊥ (R8's MAX_XFER keeps every command inside;
log 19). -/
def cellAt (cells : List (Slot 8)) (i : Nat) : Slot 8 := cells.getD i .unwritten

/-- The bits that the first `n` cells hold. -/
def cellBits (cells : List (Slot 8)) (n : Nat) : List Byte := (List.range n).map fun i => (cellAt cells i).bits

/-- Each of the first `n` cells holds a value (R11). -/
def cellsValid (cells : List (Slot 8)) (n : Nat) : Bool := (List.range n).all fun i => (cellAt cells i).valid

/-- The buffer with its leading cells replaced; its length stays. -/
def overlay (new cells : List (Slot 8)) : List (Slot 8) :=
  match new, cells with
  | c :: cs, _ :: rest => c :: overlay cs rest
  | [], rest => rest
  | _ :: _, [] => []

/-- Byte `i` of a payload. -/
def byteAt (bytes : List Byte) (i : Nat) : Byte := bytes.getD i 0

/-- Big-endian 16-bit assembly (R13, R74). -/
def be16 (a b : Byte) : Nat := 256 * a.toNat + b.toNat

/-- Big-endian 24-bit assembly (R13, R74). -/
def be24 (a b c : Byte) : Nat := 65536 * a.toNat + 256 * b.toNat + c.toNat

end Sys2Proof.Machine
end

