-- ==== Sys2Proof/Machine/Ops.lean ====
section
/-! DEFINITION. The named operations over State: the device memory, single updates, model faults, the bus transactions (R12,
R78 to R80), `Settle` and `raise Fault` (R13), the prologue and epilogue (R110, R111), and the shapes that control
commands (R160 to R164) and queries (R180) share. -/

namespace Sys2Proof.Machine

/-! ### The device memory (R71) -/

/-- The form every device memory has: offsets strictly rising and below 256. An unlisted offset holds no known value, and
an entry always holds one, so no entry repeats what an unlisted offset says. -/
def Memory.wf : Memory → Bool
  | [] => true
  | [(a, _)] => decide (a < 256)
  | (a, _) :: (a', v') :: rest => decide (a < a') && Memory.wf ((a', v') :: rest)

/-- The known value at an offset, if any. -/
def Memory.find (m : Memory) (a : Nat) : Option Byte :=
  match m with
  | [] => none
  | (a', v) :: rest => if a' = a then some v else Memory.find rest a

/-- What an offset reads as: its known value, else the free value of its unknown contents (R57; log 8). -/
def Memory.read (m : Memory) (a : Nat) : Byte :=
  match Memory.find m a with
  | some v => v
  | none => Config.deviceByte a

/-- The memory with one byte written. -/
def Memory.write (m : Memory) (a : Nat) (v : Byte) : Memory :=
  match m with
  | [] => [(a, v)]
  | (a', v') :: rest =>
    if a < a' then (a, v) :: (a', v') :: rest
    else if a = a' then (a, v) :: rest
    else (a', v') :: Memory.write rest a v

/-- The memory with `bytes[i]` written at `a + i` (R77). -/
def Memory.writeBytes (m : Memory) (a : Nat) (bytes : List Byte) : Memory :=
  match bytes with
  | [] => m
  | v :: rest => Memory.writeBytes (Memory.write m a v) (a + 1) rest

/-- The bytes at `a` to `a + n - 1` (R75). -/
def Memory.readBytes (m : Memory) (a n : Nat) : List Byte := (List.range n).map fun i => Memory.read m (a + i)

/-! ### Single updates -/

/-- STATUS replaced. -/
def State.setStatus (st : Status) (s : State) : State := { s with status := st }

/-- RES_NUM and RES_DEN written with a rational (R43, R44). -/
def State.setRational (num den : Nat) (s : State) : State :=
  { s with resNum := .of (BitVec.ofNat 32 num), resDen := .of (BitVec.ofNat 32 den) }

/-- The slot holding ⊥ unless `known`: what a rule writes that it computed from a read that gave no value (R11, R218; log 4).
The bits of a slot that holds ⊥ reach no register, bus transaction or reply. -/
def Slot.known {w : Nat} (known : Bool) (slot : Slot w) : Slot w := { slot with valid := slot.valid && known }

/-- RES_NUM left without value unless its operands have one (R218; log 4). -/
def State.knownNumber (known : Bool) (s : State) : State := { s with resNum := s.resNum.known known }

/-- RES_CHR left without value unless its operand has one (R218; log 4). -/
def State.knownLetter (known : Bool) (s : State) : State := { s with resChr := s.resChr.known known }

/-- RES_CHR written (R45). -/
def State.setLetter (c : Byte) (s : State) : State := { s with resChr := .of c }

/-- RES_F0, RES_F1 and RES_F2 written (R46, R47). -/
def State.setFields (f0 : Nat) (f1 f2 : Byte) (s : State) : State :=
  { s with resF0 := .of (BitVec.ofNat 16 f0), resF1 := .of f1, resF2 := .of f2 }

/-- TXBUF replaced. -/
def State.setTxbuf (cells : List (Slot 8)) (s : State) : State := { s with txbuf := cells }

/-- RXBUF replaced. -/
def State.setRxbuf (cells : List (Slot 8)) (s : State) : State := { s with rxbuf := cells }

/-- SETTLE_OWED replaced (R53). -/
def State.setSettleOwed (owed : Bool) (s : State) : State := { s with settleOwed := owed }

/-- The model fault record replaced (R54). -/
def State.setModelFaults (f : ModelFaults) (s : State) : State := { s with modelFaults := f }

/-- An event appended to the history (R55). -/
def State.log (e : Event) (s : State) : State := { s with history := s.history ++ [e] }

/-- The simulated device's memory replaced (R79). -/
def State.setDevice (m : Memory) (s : State) : State := { s with device := m }

/-- CMD replaced (R34). -/
def State.setCmd (w : Word) (s : State) : State := { s with cmd := w }

/-- The pending turns replaced (log 1). -/
def State.setAgenda (a : List Turn) (s : State) : State := { s with agenda := a }

/-- A word given to the host (log 14). -/
def State.reply (w : Word) (s : State) : State := { s with replies := s.replies ++ [w] }

/-- One transaction of `n` bytes counted: the bus's answer is used up and `n` draws are taken (log 6, log 10). -/
def State.countTransaction (n : Nat) (s : State) : State :=
  { s with bus := if s.cfg.simDevice then s.bus else s.bus.tail, txns := s.txns + 1, draws := s.draws + n }

/-! ### Model faults (R54, R235) -/

/-- SettleHazard recorded when `cond` holds (R216). -/
def ModelFaults.settling (cond : Bool) (f : ModelFaults) : ModelFaults :=
  { f with settleHazard := f.settleHazard || cond }

/-- NoValue recorded when `cond` holds (R218). -/
def ModelFaults.missing (cond : Bool) (f : ModelFaults) : ModelFaults := { f with noValue := f.noValue || cond }

/-- HostWhileBusy recorded (R217). -/
def ModelFaults.intruded (f : ModelFaults) : ModelFaults := { f with hostWhileBusy := true }

/-- HostMisaligned recorded (R219). -/
def ModelFaults.misaligned (f : ModelFaults) : ModelFaults := { f with hostMisaligned := true }

/-- NoValue recorded unless `valid` (R11, R218). -/
def State.requireValue (valid : Bool) (s : State) : State := s.setModelFaults (s.modelFaults.missing (!valid))

/-! ### The bus oracle (R78) and the simulated device (R79) -/

/-- The `n` free bytes from draw `k` on. -/
def freeBytes (k n : Nat) : List Byte := (List.range n).map fun i => Config.freeByte (k + i)

/-- The bus's answer to the next transaction: the first pending one, else a free value (log 6). -/
def State.nextReply (s : State) : BusReply :=
  match s.bus with
  | r :: _ => r
  | [] => Config.freeReply s.draws

/-- The bytes of an `Ok` answer cut to exactly `n`; a byte the answer does not give is free (R70, R78; log 6). -/
def exactly (k n : Nat) (bytes : List Byte) : List Byte :=
  (List.range n).map fun i => bytes.getD i (Config.freeByte (k + i))

/-- The failure schedule names the next transaction (R79; log 10). -/
def State.scheduledFailure (s : State) : Bool := s.cfg.failures.contains (s.txns + 1)

/-- How a read of `n` registers from `reg` on would end now; `none` when the bus never answers (R92). -/
def State.readAnswer (reg : Byte) (n : Nat) (s : State) : Option ReadResult :=
  if s.cfg.simDevice then
    some (if s.scheduledFailure then .err else .ok (s.device.readBytes reg.toNat n))
  else
    match s.nextReply with
    | .never => none
    | .err => some .err
    | .ok bytes => some (.ok (exactly s.draws n bytes))

/-- How a write would end now; `none` when the bus never answers (R92). -/
def State.writeAnswer (s : State) : Option WriteResult :=
  if s.cfg.simDevice then
    some (if s.scheduledFailure then .err else .ok)
  else
    match s.nextReply with
    | .never => none
    | .err => some .err
    | .ok _ => some .ok

/-- The device memory after a write: under SimDevice the bytes on `Ok` (R79) and free bytes on `Err` (R80; log 9); with
the real device nothing is known of it and nothing is kept (R78, R81; log 8). -/
def State.deviceAfterWrite (reg : Byte) (bytes : List Byte) (result : WriteResult) (s : State) : Memory :=
  if s.cfg.simDevice then
    match result with
    | .ok => s.device.writeBytes reg.toNat bytes
    | .err => s.device.writeBytes reg.toNat (freeBytes s.draws bytes.length)
  else s.device

/-- A transaction starts: SettleHazard is recorded if a settle is owed (R216, R248). -/
def State.startTransaction (s : State) : State := s.setModelFaults (s.modelFaults.settling s.settleOwed)

/-- MemRead (R12): `none` when the bus never answers (R92; log 7), else the result and the state after it. -/
def memRead (reg : Byte) (n : Nat) (s : State) : Option (ReadResult × State) :=
  match s.readAnswer reg n with
  | none => none
  | some r => some (r, (s.startTransaction.countTransaction n).log (.busRead s.devAddr reg n r))

/-- MemWrite (R12): `none` when the bus never answers (R92; log 7), else the result and the state after it. -/
def memWrite (reg : Byte) (bytes : List Byte) (s : State) : Option (WriteResult × State) :=
  match s.writeAnswer with
  | none => none
  | some r =>
    some (r, ((s.startTransaction.setDevice (s.deviceAfterWrite reg bytes r)).countTransaction bytes.length).log
      (.busWrite s.devAddr reg bytes r))

/-- Settle(SETTLE_MS) (R13, R169). -/
def settle (s : State) : State := s.log (.settle s.cfg.settleMs)

/-! ### The command frame: prologue, `raise Fault`, epilogue -/

/-- The prologue's clearing of the flags (R110). -/
def prologue (s : State) : State := s.setStatus s.status.cleared

/-- `raise Fault(c)` (R13, R212): the one way a command fault is taken. It writes STATUS.FAULT and STATUS.CAUSE alone;
nothing is saved and control goes to the epilogue (R210, R226). There is no return from it (R228). -/
def raiseFault (c : Cause) (s : State) : State := s.setStatus (s.status.faulted c)

/-- The epilogue (R111). -/
def epilogue (s : State) : State := s.setStatus s.status.completed

/-- The state after one Execute step whose body is `body` (R33, R110, R111): the prologue, the check of READY, the body, the
epilogue. A body that answers `none` met a bus that never answers: Execute is then not enabled and nothing changes
(R92; log 7). -/
def executed (body : State → Option State) (s : State) : State :=
  if s.status.ready then
    match body (prologue s) with
    | some t => epilogue t
    | none => s
  else epilogue (raiseFault .notReady (prologue s))

/-- A command's Execute step as an outcome. -/
def command (body : State → Option State) (s : State) : Host.Outcome State Fault Refusal := .next (executed body s)

/-- IOERR set when a write failed (R130, R160 to R164). -/
def noteWrite (r : WriteResult) (s : State) : State :=
  match r with
  | .ok => s
  | .err => s.setStatus s.status.failed

/-- The body of a control command: one 1-byte write, IOERR on `Err`, and the settle on `Ok` and `Err` alike (R160 to R164,
R168, R169). -/
def controlWrite (reg value : Byte) (s : State) : Option State :=
  match memWrite reg [value] s with
  | none => none
  | some (r, t) => some (settle (noteWrite r t))

/-- The body of a query: one read, the decoded result on `Ok`, the defaults with IOERR and DEFAULTED on `Err` (R180,
R181). -/
def query (reg : Byte) (n : Nat) (decoded : List Byte → State → State) (default : State → State) (s : State) :
    Option State :=
  match memRead reg n s with
  | none => none
  | some (.ok bytes, t) => some (decoded bytes t)
  | some (.err, t) => some ((default t).setStatus t.status.substituted)

end Sys2Proof.Machine
end

