-- ==== Sys2Proof/Machine/Control.lean ====
section
/-! DEFINITION. The control commands (42_control.md). -/

namespace Sys2Proof.Machine

/-- SETMODE (R160): a mode outside 1 to 7 is rejected with no transaction and no settle (R167). -/
def execSetmode (mode : Byte) (s : State) : Host.Outcome State Fault Refusal :=
  command (fun p =>
    if modeAccepted mode then controlWrite regGnssMode mode p
    else some (p.setStatus p.status.refusedMode)) s

/-- PWRON (R161). -/
def execPwron (s : State) : Host.Outcome State Fault Refusal := command (controlWrite regSleepMode powerEnable) s

/-- PWROFF (R162). -/
def execPwroff (s : State) : Host.Outcome State Fault Refusal := command (controlWrite regSleepMode powerDisable) s

/-- RGBON (R163). -/
def execRgbon (s : State) : Host.Outcome State Fault Refusal := command (controlWrite regRgbMode rgbOn) s

/-- RGBOFF (R164). -/
def execRgboff (s : State) : Host.Outcome State Fault Refusal := command (controlWrite regRgbMode rgbOff) s

end Sys2Proof.Machine
end

