-- ==== Sys2Proof/Machine/Decoder.lean ====
section
/-! DEFINITION. The decoding functions coord, triple, date4 and time3 (R142, R145, R148, R149) and the decoder commands
(R141, R144). Arithmetic is on natural numbers, as the spec's is (R10); every result fits its register (R143, R146). -/

namespace Sys2Proof.Machine

/-- The denominator of a coordinate (R44, R142). -/
def coordinateDenominator : Nat := 6000000

/-- The denominator of a scaled triple (R44, R145). -/
def tripleDenominator : Nat := 100

/-- coord's numerator (R142): degrees, minutes and a big-endian fraction of a minute in hundred-thousandths. -/
def coordinateNumerator (b : List Byte) : Nat :=
  6000000 * (byteAt b 0).toNat + 100000 * (byteAt b 1).toNat + be24 (byteAt b 2) (byteAt b 3) (byteAt b 4)

/-- coord's hemisphere byte, unchanged (R142, R152). -/
def coordinateLetter (b : List Byte) : Byte := byteAt b 5

/-- triple's numerator (R145). -/
def tripleNumerator (b : List Byte) : Nat := 100 * be16 (byteAt b 0) (byteAt b 1) + (byteAt b 2).toNat

/-- A coordinate payload decoded into RES_NUM, RES_DEN and RES_CHR (R141, R142). -/
def writeCoordinate (b : List Byte) (s : State) : State :=
  (s.setRational (coordinateNumerator b) coordinateDenominator).setLetter (coordinateLetter b)

/-- A scaled triple decoded into RES_NUM and RES_DEN (R144, R145). -/
def writeTriple (b : List Byte) (s : State) : State := s.setRational (tripleNumerator b) tripleDenominator

/-- date4 written to RES_F0, RES_F1 and RES_F2 (R148). -/
def writeDate (b : List Byte) (s : State) : State :=
  s.setFields (be16 (byteAt b 0) (byteAt b 1)) (byteAt b 2) (byteAt b 3)

/-- time3 written to RES_F0, RES_F1 and RES_F2 (R149). -/
def writeTime (b : List Byte) (s : State) : State := s.setFields (byteAt b 0).toNat (byteAt b 1) (byteAt b 2)

/-- The one byte of GETMODE and GETSATS over denominator 1 (R182, R183). -/
def writeCount (b : List Byte) (s : State) : State := s.setRational (byteAt b 0).toNat 1

/-- RXBUF[0..5] decoded (R141). A cell that holds ⊥ records NoValue, and the register computed from it is left holding ⊥:
RES_NUM depends on cells 0 to 4, RES_CHR on cell 5, RES_DEN on none (R142, R218; log 4). -/
def decodeCoordinateBuffer (s : State) : State :=
  ((writeCoordinate (cellBits s.rxbuf 6) (s.requireValue (cellsValid s.rxbuf 6))).knownNumber
    (cellsValid s.rxbuf 5)).knownLetter (cellAt s.rxbuf 5).valid

/-- RXBUF[0..2] decoded (R144). A cell that holds ⊥ records NoValue and leaves RES_NUM holding ⊥ (R145, R218; log 4). -/
def decodeTripleBuffer (s : State) : State :=
  (writeTriple (cellBits s.rxbuf 3) (s.requireValue (cellsValid s.rxbuf 3))).knownNumber (cellsValid s.rxbuf 3)

/-- DECCOORD (R141). -/
def execDeccoord (s : State) : Host.Outcome State Fault Refusal := command (fun p => some (decodeCoordinateBuffer p)) s

/-- DECTRIPLE (R144). -/
def execDectriple (s : State) : Host.Outcome State Fault Refusal := command (fun p => some (decodeTripleBuffer p)) s

end Sys2Proof.Machine
end

