-- ==== Sys2Proof/Machine/Query.lean ====
section
/-! DEFINITION. The query commands (43_query.md): each names its register, its length, its decode function and its default
(R180, R181, R191). -/

namespace Sys2Proof.Machine

/-- The default of GETMODE and GETSATS (R191). -/
def defaultCount (s : State) : State := s.setRational 0 1

/-- GETDATE's default, 2000-01-01 (R184). -/
def defaultDate (s : State) : State := s.setFields 2000 1 1

/-- GETTIME's default, 00:00:00 (R185). -/
def defaultTime (s : State) : State := s.setFields 0 0 0

/-- The default coordinate with its hemisphere letter (R186, R187). -/
def defaultCoordinate (letter : Byte) (s : State) : State := (s.setRational 0 coordinateDenominator).setLetter letter

/-- The default of GETALT, GETCOG and GETSOG (R188 to R190). -/
def defaultTriple (s : State) : State := s.setRational 0 tripleDenominator

/-- GETMODE (R182); the byte is not validated (R193). -/
def execGetmode (s : State) : Host.Outcome State Fault Refusal :=
  command (query regGnssMode 1 writeCount defaultCount) s

/-- GETSATS (R183). -/
def execGetsats (s : State) : Host.Outcome State Fault Refusal :=
  command (query regSatellites 1 writeCount defaultCount) s

/-- GETDATE (R184). -/
def execGetdate (s : State) : Host.Outcome State Fault Refusal :=
  command (query regYearHigh 4 writeDate defaultDate) s

/-- GETTIME (R185). -/
def execGettime (s : State) : Host.Outcome State Fault Refusal :=
  command (query regHour 3 writeTime defaultTime) s

/-- GETLAT (R186). -/
def execGetlat (s : State) : Host.Outcome State Fault Refusal :=
  command (query regLatitude 6 writeCoordinate (defaultCoordinate letterS)) s

/-- GETLON (R187). -/
def execGetlon (s : State) : Host.Outcome State Fault Refusal :=
  command (query regLongitude 6 writeCoordinate (defaultCoordinate letterW)) s

/-- GETALT (R188). -/
def execGetalt (s : State) : Host.Outcome State Fault Refusal :=
  command (query regAltitude 3 writeTriple defaultTriple) s

/-- GETCOG (R189). -/
def execGetcog (s : State) : Host.Outcome State Fault Refusal :=
  command (query regCourse 3 writeTriple defaultTriple) s

/-- GETSOG (R190). -/
def execGetsog (s : State) : Host.Outcome State Fault Refusal :=
  command (query regSpeed 3 writeTriple defaultTriple) s

end Sys2Proof.Machine
end

