-- ==== Sys2Proof/Machine/Transaction.lean ====
section
/-! DEFINITION. The transaction commands (40_transaction.md). -/

namespace Sys2Proof.Machine

/-- The body of WRREG once LEN and REG have passed the prologue (R130). With a cell that holds ⊥ there is no payload: NoValue
is recorded and no transaction takes place (R218; log 4). -/
def rawWrite (reg len : Byte) (s : State) : Option State :=
  if cellsValid s.txbuf len.toNat then
    match memWrite reg (cellBits s.txbuf len.toNat) s with
    | none => none
    | some (r, t) => some (noteWrite r (t.setSettleOwed (t.settleOwed || touchesControl reg len)))
  else some (s.requireValue false)

/-- The body of RDREG once LEN and REG have passed the prologue (R131). On `Err` the cells hold ⊥, their bits being free
(log 5). -/
def rawRead (reg len : Byte) (s : State) : Option State :=
  match memRead reg len.toNat s with
  | none => none
  | some (.ok bytes, t) => some (t.setRxbuf (overlay (bytes.map .of) t.rxbuf))
  | some (.err, t) =>
    some ((t.setRxbuf (overlay ((freeBytes s.draws len.toNat).map .invalid) t.rxbuf)).setStatus t.status.failed)

/-- WRREG (R130), with format X's checks of the prologue (R110). -/
def execWrreg (reg len : Byte) (s : State) : Host.Outcome State Fault Refusal :=
  command (fun p =>
    match transferFault p.cfg.maxXfer reg len with
    | some c => some (raiseFault c p)
    | none => rawWrite reg len p) s

/-- RDREG (R131), with format X's checks of the prologue (R110). -/
def execRdreg (reg len : Byte) (s : State) : Host.Outcome State Fault Refusal :=
  command (fun p =>
    match transferFault p.cfg.maxXfer reg len with
    | some c => some (raiseFault c p)
    | none => rawRead reg len p) s

end Sys2Proof.Machine
end

