-- ==== Sys2Proof/Machine/Dispatch.lean ====
section
/-! DEFINITION. The Execute step of each command (R33): one arm for each row of the opcode map (R102). -/

namespace Sys2Proof.Machine

/-- The Execute step of a decoded command: prologue, body and epilogue (R14, R110, R111). -/
def exec (i : Instr) (s : State) : Host.Outcome State Fault Refusal :=
  match i with
  | .wrreg reg len => Sys2Proof.Machine.execWrreg reg len s
  | .rdreg reg len => Sys2Proof.Machine.execRdreg reg len s
  | .deccoord => Sys2Proof.Machine.execDeccoord s
  | .dectriple => Sys2Proof.Machine.execDectriple s
  | .setmode mode => Sys2Proof.Machine.execSetmode mode s
  | .getmode => Sys2Proof.Machine.execGetmode s
  | .pwron => Sys2Proof.Machine.execPwron s
  | .pwroff => Sys2Proof.Machine.execPwroff s
  | .rgbon => Sys2Proof.Machine.execRgbon s
  | .rgboff => Sys2Proof.Machine.execRgboff s
  | .getsats => Sys2Proof.Machine.execGetsats s
  | .getdate => Sys2Proof.Machine.execGetdate s
  | .gettime => Sys2Proof.Machine.execGettime s
  | .getlat => Sys2Proof.Machine.execGetlat s
  | .getlon => Sys2Proof.Machine.execGetlon s
  | .getalt => Sys2Proof.Machine.execGetalt s
  | .getcog => Sys2Proof.Machine.execGetcog s
  | .getsog => Sys2Proof.Machine.execGetsog s

end Sys2Proof.Machine
end

