-- ==== Sys2Proof/Machine/Reset.lean ====
section
/-! DEFINITION. Block reset during a run (R240 to R243). -/

namespace Sys2Proof.Machine

/-- A bus transaction a command makes: a write or a read of `n` registers from `reg` on. -/
inductive Transfer where
  | write (reg : Byte) (n : Nat)
  | read (reg : Byte) (n : Nat)
deriving DecidableEq, Repr

/-- The bus transaction a command makes in state `s`, if it makes one (R132, R170, R194; R153 for the decoders; log 4 for a
WRREG without payload). -/
def transferOf (s : State) (i : Instr) : Option Transfer :=
  match i with
  | .wrreg reg len =>
    if (transferFault s.cfg.maxXfer reg len).isNone && cellsValid s.txbuf len.toNat then some (.write reg len.toNat)
    else none
  | .rdreg reg len => if (transferFault s.cfg.maxXfer reg len).isNone then some (.read reg len.toNat) else none
  | .deccoord => none
  | .dectriple => none
  | .setmode mode => if modeAccepted mode then some (.write regGnssMode 1) else none
  | .getmode => some (.read regGnssMode 1)
  | .pwron => some (.write regSleepMode 1)
  | .pwroff => some (.write regSleepMode 1)
  | .rgbon => some (.write regRgbMode 1)
  | .rgboff => some (.write regRgbMode 1)
  | .getsats => some (.read regSatellites 1)
  | .getdate => some (.read regYearHigh 4)
  | .gettime => some (.read regHour 3)
  | .getlat => some (.read regLatitude 6)
  | .getlon => some (.read regLongitude 6)
  | .getalt => some (.read regAltitude 3)
  | .getcog => some (.read regCourse 3)
  | .getsog => some (.read regSpeed 3)

/-- The transaction that may be in flight: that of the issued command, if it passes the prologue (R242). -/
def inFlight (s : State) : Option Transfer :=
  if s.status.busy && s.status.ready then
    match decode s.cmd with
    | .command i => transferOf s i
    | .reject _ => none
  else none

/-- The abandoned command's transaction in flight counts as failed: under SimDevice the registers it would have written
hold any values, which includes the old ones (R80, R242; log 11). -/
def abandon (s : State) : State :=
  match inFlight s with
  | none => s
  | some (.write reg n) => (s.setDevice (s.deviceAfterWrite reg (freeBytes s.draws n) .err)).countTransaction n
  | some (.read _ n) => s.countTransaction n

/-- Block reset with its draw `init_ok` (R57, R240, R241). The device (R243), the model fault record (R235; log 12) and what
lies outside the block (the bus, the host, the counts of draws) go on; all else is as at construction. -/
def blockReset (initOk : Bool) (s : State) : State :=
  let a := abandon s
  { State.constructed s.cfg initOk with
    modelFaults := s.modelFaults
    device := a.device
    bus := a.bus
    agenda := a.agenda
    replies := a.replies
    txns := a.txns
    draws := a.draws }

end Sys2Proof.Machine
end

