-- ==== Sys2Proof/Machine/Window.lean ====
section
/-! DEFINITION. The host window (R32, R84, R85) and the host's actions on the block: window writes and reads, the Issue step
(R33, R34), `Delay` (R247), with the model faults HostWhileBusy, NoValue and HostMisaligned (R217 to R219). -/

namespace Sys2Proof.Machine

/-- What a window offset names (R32). -/
inductive WindowRegister where
  | cmd
  | status
  | resNum
  | resDen
  | resChr
  | resF0
  | resF1
  | resF2
  | devAddr
  | tx (i : Nat)
  | rx (i : Nat)
  | reserved
deriving DecidableEq, Repr

/-- The buffer cell that a multiple-of-4 offset names, if it names one (R32, R85). Where MAX_XFER > 64 makes the two
buffers' offsets overlap, a free value decides which (log 15). -/
def bufferCell (maxXfer offset : Nat) : WindowRegister :=
  let inTx := decide (0x100 ≤ offset) && decide (offset < 0x100 + 4 * maxXfer)
  let inRx := decide (0x200 ≤ offset) && decide (offset < 0x200 + 4 * maxXfer)
  match inTx, inRx with
  | true, true => if Config.overlapIsRx offset then .rx ((offset - 0x200) / 4) else .tx ((offset - 0x100) / 4)
  | true, false => .tx ((offset - 0x100) / 4)
  | false, true => .rx ((offset - 0x200) / 4)
  | false, false => .reserved

/-- The register at a multiple-of-4 offset (R32); every other one is reserved (R85). -/
def windowRegister (maxXfer offset : Nat) : WindowRegister :=
  match offset with
  | 0x000 => .cmd
  | 0x004 => .status
  | 0x008 => .resNum
  | 0x00C => .resDen
  | 0x010 => .resChr
  | 0x014 => .resF0
  | 0x018 => .resF1
  | 0x01C => .resF2
  | 0x020 => .devAddr
  | _ => bufferCell maxXfer offset

/-- A whole aligned 32-bit access (R84). -/
def wholeAccess (offset width : Nat) : Bool := decide (width = 4) && decide (offset % 4 = 0)

/-- The Issue step (R33): the word enters CMD and the engine becomes BUSY. -/
def issue (w : Word) (s : State) : State := (s.setCmd w).setStatus s.status.issued

/-- A model fault of the host's protocol: recorded, nothing else changes (R217). -/
def intrude (s : State) : State := s.setModelFaults s.modelFaults.intruded

/-- The buffer with cell `i` holding the low byte of a word (R32). -/
def storeCell (cells : List (Slot 8)) (i : Nat) (v : Word) : List (Slot 8) := cells.set i (.of (v.extractLsb' 0 8))

/-- A whole window write to a register while IDLE (R33, R34, R49, R50); a read-only or reserved one ignores it (R85). -/
def writeRegister (r : WindowRegister) (v : Word) (s : State) : State :=
  match r with
  | .cmd => issue v s
  | .tx i => s.setTxbuf (storeCell s.txbuf i v)
  | .rx i => s.setRxbuf (storeCell s.rxbuf i v)
  | .status | .resNum | .resDen | .resChr | .resF0 | .resF1 | .resF2 | .devAddr | .reserved => s

/-- A read of a slot: one that holds ⊥ records NoValue and gives no value (R218), else its value, zero-extended (R32). -/
def readSlot {w : Nat} (slot : Slot w) (s : State) : State :=
  if slot.valid then s.reply (slot.bits.setWidth 32)
  else s.requireValue false

/-- The registers a host may read while BUSY (R33, R249). -/
def WindowRegister.readableWhileBusy : WindowRegister → Bool
  | .cmd | .status | .devAddr => true
  | .resNum | .resDen | .resChr | .resF0 | .resF1 | .resF2 | .tx _ | .rx _ | .reserved => false

/-- A whole window read of a register that the engine's state allows (R32, R85). -/
def readRegister (r : WindowRegister) (s : State) : State :=
  match r with
  | .cmd => s.reply s.cmd
  | .status => s.reply s.status.toWord
  | .resNum => readSlot s.resNum s
  | .resDen => readSlot s.resDen s
  | .resChr => readSlot s.resChr s
  | .resF0 => readSlot s.resF0 s
  | .resF1 => readSlot s.resF1 s
  | .resF2 => readSlot s.resF2 s
  | .devAddr => s.reply (s.devAddr.setWidth 32)
  | .tx i => readSlot (cellAt s.txbuf i) s
  | .rx i => readSlot (cellAt s.rxbuf i) s
  | .reserved => s.reply 0x00000000

/-- A host window write: not a whole aligned word (R84, R219), else while BUSY a protocol violation whatever it names (R249;
log 16), else performed. -/
def hostWrite (offset width : Nat) (v : Word) (s : State) : State :=
  if !wholeAccess offset width then s.setModelFaults s.modelFaults.misaligned
  else if s.status.busy then intrude s
  else writeRegister (windowRegister s.cfg.maxXfer offset) v s

/-- A host window read: not a whole aligned word (R84, R219), else while BUSY a protocol violation unless it names CMD, STATUS
or DEV_ADDR (R33, R249; log 16), else performed. -/
def hostRead (offset width : Nat) (s : State) : State :=
  if !wholeAccess offset width then s.setModelFaults s.modelFaults.misaligned
  else if s.status.busy && !(windowRegister s.cfg.maxXfer offset).readableWhileBusy then intrude s
  else readRegister (windowRegister s.cfg.maxXfer offset) s

/-- The host's `Delay(ms)` (R247), in any engine state. -/
def hostDelay (ms : Nat) (s : State) : State :=
  (s.log (.delay ms)).setSettleOwed (s.settleOwed && decide (ms < s.cfg.settleMs))

/-- One host action. `wait` is `ld STATUS` (R109); that it repeats until BUSY = 0 is the turn's doing (log 13). -/
def hostAction (a : HostAction) (s : State) : State :=
  match a with
  | .write offset width v => hostWrite offset width v s
  | .read offset width => hostRead offset width s
  | .delay ms => hostDelay ms s
  | .wait => hostRead 0x004 4 s

end Sys2Proof.Machine
end

