-- ==== Sys2Proof/Machine/Engine.lean ====
section
/-! DEFINITION. The engine's Execute step from CMD on (R33, R110) and the order of turns (R4; log 1, log 13). -/

namespace Sys2Proof.Machine

/-- Execute for a word that decodes to no command: NOT_READY first, then the decoder's cause (R110, R222). -/
def rejectCommand (c : Cause) (s : State) : Host.Outcome State Fault Refusal :=
  command (fun p => some (raiseFault c p)) s

/-- The Execute step of the word in CMD (R33, R110). -/
def execute (s : State) : Host.Outcome State Fault Refusal :=
  match decode s.cmd with
  | .command i => exec i s
  | .reject c => rejectCommand c s

/-- The engine's turn: Execute while BUSY; an IDLE engine has no step (R33, R244). -/
def engineTurn (s : State) : Host.Outcome State Fault Refusal := if s.status.busy then execute s else .next s

/-- One turn of the agent named. -/
def takeTurn (t : Turn) (s : State) : Host.Outcome State Fault Refusal :=
  match t with
  | .host a => .next (hostAction a s)
  | .engine => engineTurn s
  | .reset initOk => .next (blockReset initOk s)

/-- The next turn (log 1, log 13): the first one pending; with none pending, the engine's. A host at `wait` leaves the turn
to the engine while BUSY = 1 (R109, R36). -/
def nextTurn (s : State) : Host.Outcome State Fault Refusal :=
  match s.agenda with
  | [] => engineTurn s
  | t :: rest => if t = .host .wait ∧ s.status.busy = true then execute s else takeTurn t (s.setAgenda rest)

/-- `s` with the word `w` issued and the engine's turn next: what a host's `st CMD, w` leaves (R33), without the turn it
takes (log 1). -/
def placeCommand (w : Word) (s : State) : State :=
  ((s.setCmd w).setStatus s.status.issued).setAgenda (.engine :: s.agenda)

end Sys2Proof.Machine
end

