-- ==== Sys2Proof/Machine/Step.lean ====
section
/-! DEFINITION. The machine's step and the placing of a command for it. -/

namespace Sys2Proof.Machine

/-- One step: the turn that is next (log 1). -/
def step (s : State) : Host.Outcome State Fault Refusal := nextTurn s

/-- `s` with an opcode-table word issued, so that the very next step executes it (log 1). -/
def State.withFetchWord (s : State) (nbits w : Nat) : State := placeCommand (tableWord nbits w) s

end Sys2Proof.Machine
end

