-- ==== Sys2Proof/Machine/Assembler.lean ====
section
/-! DEFINITION. The host's assembler (R108) and the host programs that command lines and pseudo-instructions stand for
(R109), as turns for `State.agenda`. -/

namespace Sys2Proof.Machine

/-- Why the assembler refuses a line (R108; `badNumber` is log 27). -/
inductive AsmReason where
  | unknownMnemonic
  | missingOperand
  | extraOperand
  | operandRange
  | badNumber
deriving DecidableEq, Repr

/-- What the assembler answers for a line: its word, or a refusal by name and line (R108). That the name is the reason's and not
the mnemonic's text is the model's DESIGN CHOICE, safe (log 27). -/
inductive Assembled where
  | word (w : Word)
  | refused (line : Nat) (reason : AsmReason)
deriving DecidableEq, Repr

/-- The value of a digit in a base up to 16, if the character is one. -/
def digitValue (base : Nat) (c : Char) : Option Nat :=
  let v :=
    if '0' ≤ c ∧ c ≤ '9' then c.toNat - '0'.toNat
    else if 'a' ≤ c ∧ c ≤ 'f' then c.toNat - 'a'.toNat + 10
    else if 'A' ≤ c ∧ c ≤ 'F' then c.toNat - 'A'.toNat + 10
    else 16
  if v < base then some v else none

/-- Digits read on from `acc`. -/
def digitsFrom (base acc : Nat) (cs : List Char) : Option Nat :=
  match cs with
  | [] => some acc
  | c :: rest =>
    match digitValue base c with
    | some v => digitsFrom base (acc * base + v) rest
    | none => none

/-- A number, decimal or hexadecimal with the prefix 0x (R108). -/
def parseNumber (cs : List Char) : Option Nat :=
  match cs with
  | [] => none
  | '0' :: 'x' :: [] => none
  | '0' :: 'x' :: rest => digitsFrom 16 0 rest
  | _ => digitsFrom 10 0 cs

/-- A blank of an assembler line. -/
def isBlank (c : Char) : Bool := c = ' ' || c = '\t'

/-- The characters without the blanks around them. -/
def trimBlanks (cs : List Char) : List Char := ((cs.dropWhile isBlank).reverse.dropWhile isBlank).reverse

/-- The operand texts, separated by commas (R108). -/
def splitCommas (cs : List Char) : List (List Char) :=
  match cs with
  | [] => [[]]
  | c :: rest =>
    match c, splitCommas rest with
    | ',', parts => [] :: parts
    | _, part :: parts => (c :: part) :: parts
    | _, [] => [[c]]

/-- The operands of a line: none for an empty text (R108). -/
def parseOperands (cs : List Char) : Option (List Nat) :=
  match trimBlanks cs with
  | [] => some []
  | text => (splitCommas text).mapM fun part => parseNumber (trimBlanks part)

/-- A command without operands. -/
def plainOperands (line : Nat) (i : Instr) (ops : List Nat) : Assembled :=
  match ops with
  | [] => .word (encode i)
  | _ :: _ => .refused line .extraOperand

/-- A command with one 8-bit operand. -/
def byteOperand (line : Nat) (command : Byte → Instr) (ops : List Nat) : Assembled :=
  match ops with
  | [] => .refused line .missingOperand
  | [a] => if a ≤ 255 then .word (encode (command (BitVec.ofNat 8 a))) else .refused line .operandRange
  | _ => .refused line .extraOperand

/-- A command with two 8-bit operands. -/
def twoByteOperands (line : Nat) (command : Byte → Byte → Instr) (ops : List Nat) : Assembled :=
  match ops with
  | [] | [_] => .refused line .missingOperand
  | [a, b] =>
    if a ≤ 255 ∧ b ≤ 255 then .word (encode (command (BitVec.ofNat 8 a) (BitVec.ofNat 8 b)))
    else .refused line .operandRange
  | _ => .refused line .extraOperand

/-- `.word V`: V unchanged (R108). -/
def rawWord (line : Nat) (ops : List Nat) : Assembled :=
  match ops with
  | [] => .refused line .missingOperand
  | [v] => if v < 2 ^ 32 then .word (BitVec.ofNat 32 v) else .refused line .operandRange
  | _ => .refused line .extraOperand

/-- The mnemonics that take no operands, with their commands (R108). -/
def plainCommands : List (String × Instr) :=
  [ ("deccoord", .deccoord), ("dectriple", .dectriple), ("getmode", .getmode), ("pwron", .pwron), ("pwroff", .pwroff),
    ("rgbon", .rgbon), ("rgboff", .rgboff), ("getsats", .getsats), ("getdate", .getdate), ("gettime", .gettime),
    ("getlat", .getlat), ("getlon", .getlon), ("getalt", .getalt), ("getcog", .getcog), ("getsog", .getsog) ]

/-- A mnemonic with its operands (R108). -/
def assembleOperation (line : Nat) (mnemonic : String) (ops : List Nat) : Assembled :=
  if mnemonic = "wrreg" then twoByteOperands line .wrreg ops
  else if mnemonic = "rdreg" then twoByteOperands line .rdreg ops
  else if mnemonic = "setmode" then byteOperand line .setmode ops
  else if mnemonic = ".word" then rawWord line ops
  else
    match plainCommands.lookup mnemonic with
    | some i => plainOperands line i ops
    | none => .refused line .unknownMnemonic

/-- One assembler line (R108). DESIGN CHOICE, safe (log 27): a line with several errors gets `badNumber` first, then
`unknownMnemonic`, then the operand count, then the operand range; a blank line is an unknown mnemonic. -/
def assemble (line : Nat) (text : String) : Assembled :=
  let cs := trimBlanks text.toList
  let mnemonic := String.ofList (cs.takeWhile fun c => !isBlank c)
  match parseOperands (cs.dropWhile fun c => !isBlank c) with
  | some ops => assembleOperation line mnemonic ops
  | none => .refused line .badNumber

/-- `st NAME, V` at a window offset (R109). -/
def storeTurn (offset : Nat) (v : Word) : Turn := .host (.write offset 4 v)

/-- `ld NAME` at a window offset (R109). -/
def loadTurn (offset : Nat) : Turn := .host (.read offset 4)

/-- `delay MS` (R109). -/
def delayTurn (ms : Nat) : Turn := .host (.delay ms)

/-- A `.word` line: `st CMD, w`, then `wait` (R109). -/
def wordLine (w : Word) : List Turn := [storeTurn 0x000 w, .host .wait]

/-- A command line (R109). -/
def commandLine (i : Instr) : List Turn := wordLine (encode i)

/-- The stores of a payload to tx[k], tx[k+1], … -/
def storePayload (k : Nat) (bytes : List Byte) : List Turn :=
  match bytes with
  | [] => []
  | b :: rest => storeTurn (0x100 + 4 * k) (b.setWidth 32) :: storePayload (k + 1) rest

/-- `wrreg.b REG, V` (R109). -/
def wrregByte (reg v : Byte) : List Turn := storeTurn 0x100 (v.setWidth 32) :: commandLine (.wrreg reg 1)

/-- `wrreg.s REG, b0, …, bk` for 1 ≤ k+1 ≤ MAX_XFER (R109). -/
def wrregSequence (maxXfer : Nat) (reg : Byte) (bytes : List Byte) : Option (List Turn) :=
  if 1 ≤ bytes.length ∧ bytes.length ≤ maxXfer then
    some (storePayload 0 bytes ++ commandLine (.wrreg reg (BitVec.ofNat 8 bytes.length)))
  else none

/-- `ldcoord REG` (R109). -/
def ldcoord (reg : Byte) : List Turn := commandLine (.rdreg reg 6) ++ commandLine .deccoord

/-- `ldtriple REG` (R109). -/
def ldtriple (reg : Byte) : List Turn := commandLine (.rdreg reg 3) ++ commandLine .dectriple

/-- `setpower on` and `setpower off` (R109). -/
def setpower (on : Bool) : List Turn := commandLine (if on then .pwron else .pwroff)

/-- `setrgb on` and `setrgb off` (R109). -/
def setrgb (on : Bool) : List Turn := commandLine (if on then .rgbon else .rgboff)

end Sys2Proof.Machine
end

