-- ==== Sys2Proof/Machine/Render.lean ====
section
/-! DEFINITION. The host's renderings of results: dates and times as text (R147) and a rational as a float (R150). -/

namespace Sys2Proof.Machine

/-- The decimal digits of a number, '0' added on the left up to at least `k` digits (R147). -/
def pad (v k : Nat) : List Char :=
  let digits := Nat.toDigits 10 v
  List.replicate (k - digits.length) '0' ++ digits

/-- The text of a date, `YYYY-MM-DD` (R147). -/
def renderDate (y m d : Nat) : String := String.ofList (pad y 4 ++ '-' :: pad m 2 ++ '-' :: pad d 2)

/-- The text of a time, `HH:MM:SS` (R147). -/
def renderTime (h mi s : Nat) : String := String.ofList (pad h 2 ++ ':' :: pad mi 2 ++ ':' :: pad s 2)

/-- The date fields as text (R184), if each holds a value (R11; log 22). -/
def State.dateText (s : State) : Option String :=
  if s.resF0.valid && s.resF1.valid && s.resF2.valid then
    some (renderDate s.resF0.bits.toNat s.resF1.bits.toNat s.resF2.bits.toNat)
  else none

/-- The time fields as text (R185), if each holds a value (R11; log 22). -/
def State.timeText (s : State) : Option String :=
  if s.resF0.valid && s.resF1.valid && s.resF2.valid then
    some (renderTime s.resF0.bits.toNat s.resF1.bits.toNat s.resF2.bits.toNat)
  else none

/-- The host's float of the numeric result (R150), if it holds a value (R11; log 20). -/
def State.floatBits (s : State) : Option (List Bool) :=
  if s.resNum.valid && s.resDen.valid then some (Config.toFloat s.resNum.bits s.resDen.bits) else none

end Sys2Proof.Machine
end

