-- ==== Sys2Proof/Safety.lean ====
section
/-! DEFINITION. What claims speak of: safe and final states (R54, R235; log 28), the invariants of the block, and the frames of its
commands (R51). -/

namespace Sys2Proof.Machine

/-! ### Safe and final states -/

/-- No model fault is recorded (R54). -/
def State.noModelFault (s : State) : Bool := s.modelFaults = .none

/-- A run may end here. That a state with a model fault is never final is the spec's (R54, R235). That every other state is
final exactly when the engine is IDLE and no turn is pending is the model's DESIGN CHOICE, unsafe (log 28). -/
def State.isFinal (s : State) : Bool := !s.status.busy && s.agenda.isEmpty && s.noModelFault

/-- Every model fault recorded in `f` is recorded in `g` (R235). -/
def ModelFaults.within (f g : ModelFaults) : Prop :=
  (f.settleHazard = true → g.settleHazard = true) ∧ (f.hostWhileBusy = true → g.hostWhileBusy = true) ∧
    (f.noValue = true → g.noValue = true) ∧ (f.hostMisaligned = true → g.hostMisaligned = true)

/-! ### Invariants -/

/-- The STATUS values that can stand between commands (R222): with READY = 1 success, REJECTED, IOERR, IOERR with DEFAULTED
and the four faults; with READY = 0 the value after reset and NOT_READY. -/
def statusValues (ready : Bool) : List Word :=
  if ready then [0x002, 0x012, 0x006, 0x00E, 0x122, 0x222, 0x322, 0x422] else [0x000, 0x520]

/-- STATUS, BUSY apart, is one of the values of R222. -/
def State.statusLegal (s : State) : Prop := s.status.completed.toWord ∈ statusValues s.status.ready

/-- RES_DEN, if it holds a value, holds one that the rules write (R44): a coordinate's, a triple's or a count's. RES_NUM, if it
holds a value, has a RES_DEN that does, and is in that kind's bound (R143, R146). -/
def State.rationalLegal (s : State) : Prop :=
  (s.resDen.valid = true → s.resDen.bits = 6000000 ∨ s.resDen.bits = 100 ∨ s.resDen.bits = 1) ∧
    (s.resNum.valid = true → s.resDen.valid = true ∧
      ((s.resDen.bits = 6000000 ∧ s.resNum.bits.toNat ≤ 1572277215) ∨
        (s.resDen.bits = 100 ∧ s.resNum.bits.toNat ≤ 6553755) ∨ (s.resDen.bits = 1 ∧ s.resNum.bits.toNat ≤ 255)))

/-- TXBUF and RXBUF have MAX_XFER cells each (R49, R50). -/
def State.buffersSized (s : State) : Prop := s.txbuf.length = s.cfg.maxXfer ∧ s.rxbuf.length = s.cfg.maxXfer

/-- DEV_ADDR holds the parameter it was loaded from (R48). -/
def State.addressFixed (s : State) : Prop := s.devAddr = s.cfg.devAddr

/-- The device memory has its canonical form. -/
def State.deviceCanonical (s : State) : Prop := Memory.wf s.device = true

/-! ### Frames -/

/-- What no command writes: the parameters, CMD, DEV_ADDR, TXBUF (R49), and what belongs to the host. -/
structure CommandFrame (s t : State) : Prop where
  cfg : t.cfg = s.cfg
  cmd : t.cmd = s.cmd
  devAddr : t.devAddr = s.devAddr
  txbuf : t.txbuf = s.txbuf
  agenda : t.agenda = s.agenda
  replies : t.replies = s.replies

/-- RES_NUM and RES_DEN are unchanged. -/
def SameRational (s t : State) : Prop := t.resNum = s.resNum ∧ t.resDen = s.resDen

/-- RES_F0, RES_F1 and RES_F2 are unchanged. -/
def SameFields (s t : State) : Prop := t.resF0 = s.resF0 ∧ t.resF1 = s.resF1 ∧ t.resF2 = s.resF2

/-- Every result register is unchanged. -/
def SameResults (s t : State) : Prop := SameRational s t ∧ t.resChr = s.resChr ∧ SameFields s t

/-- Every device register reads as before. -/
def SameDevice (s t : State) : Prop := ∀ a, Memory.read t.device a = Memory.read s.device a

/-- Every device register outside the `n` from `reg` on reads as before. -/
def SameDeviceOutside (reg n : Nat) (s t : State) : Prop :=
  ∀ a, (a < reg ∨ reg + n ≤ a) → Memory.read t.device a = Memory.read s.device a

/-- The model fault record after one bus transaction: SettleHazard is added exactly if a settle was owed (R216, R248). -/
def HazardChecked (s t : State) : Prop :=
  t.modelFaults = { s.modelFaults with settleHazard := s.modelFaults.settleHazard || s.settleOwed }

/-- What a query leaves unchanged besides `CommandFrame`: RXBUF (R192), SETTLE_OWED and the device (R180); its read is checked
for the settle hazard. -/
structure QueryFrame (s t : State) : Prop where
  command : CommandFrame s t
  rxbuf : t.rxbuf = s.rxbuf
  settleOwed : t.settleOwed = s.settleOwed
  device : SameDevice s t
  hazard : HazardChecked s t
  oneTransaction : t.txns = s.txns + 1

/-- A one-byte query `i` of register `reg` returns the byte over denominator 1 (R182, R183). -/
def CountQuery (i : Instr) (reg : Byte) : Prop :=
  ∀ (s : State) (b : Byte), s.status.ready = true → s.readAnswer reg 1 = some (.ok [b]) →
    ∃ t, exec i s = .next t ∧ t.resNum = .of (b.setWidth 32) ∧ t.resDen = .of 1 ∧ t.status.toWord = 0x002 ∧
      t.history = s.history ++ [.busRead s.devAddr reg 1 (.ok [b])] ∧ t.resChr = s.resChr ∧ SameFields s t ∧ QueryFrame s t

/-- A six-byte query `i` of register `reg` returns the coordinate of the bytes read (R142, R186, R187). -/
def CoordinateQuery (i : Instr) (reg : Byte) : Prop :=
  ∀ (s : State) (deg min f2 f1 f0 chr : Byte), s.status.ready = true →
    s.readAnswer reg 6 = some (.ok [deg, min, f2, f1, f0, chr]) →
    ∃ t, exec i s = .next t ∧
      t.resNum = .of (BitVec.ofNat 32 (6000000 * deg.toNat + 100000 * min.toNat
        + (65536 * f2.toNat + 256 * f1.toNat + f0.toNat))) ∧
      t.resDen = .of 6000000 ∧ t.resChr = .of chr ∧ t.status.toWord = 0x002 ∧
      t.history = s.history ++ [.busRead s.devAddr reg 6 (.ok [deg, min, f2, f1, f0, chr])] ∧
      SameFields s t ∧ QueryFrame s t

/-- A three-byte query `i` of register `reg` returns the scaled triple of the bytes read (R145, R188 to R190). -/
def TripleQuery (i : Instr) (reg : Byte) : Prop :=
  ∀ (s : State) (hi lo frac : Byte), s.status.ready = true → s.readAnswer reg 3 = some (.ok [hi, lo, frac]) →
    ∃ t, exec i s = .next t ∧
      t.resNum = .of (BitVec.ofNat 32 (100 * (256 * hi.toNat + lo.toNat) + frac.toNat)) ∧ t.resDen = .of 100 ∧
      t.status.toWord = 0x002 ∧ t.history = s.history ++ [.busRead s.devAddr reg 3 (.ok [hi, lo, frac])] ∧
      t.resChr = s.resChr ∧ SameFields s t ∧ QueryFrame s t

/-- A query `i` of `n` bytes at `reg` whose read fails ends with IOERR and DEFAULTED, its registers as `result` says (R181). -/
def DefaultedQuery (i : Instr) (reg : Byte) (n : Nat) (result : State → State → Prop) : Prop :=
  ∀ s : State, s.status.ready = true → s.readAnswer reg n = some .err →
    ∃ t, exec i s = .next t ∧ result s t ∧ t.status.toWord = 0x00E ∧
      t.history = s.history ++ [.busRead s.devAddr reg n .err] ∧ QueryFrame s t

/-- RES_NUM / RES_DEN hold the rational `num / den`, the other result registers being unchanged. -/
def OnlyRational (num den : Word) (s t : State) : Prop :=
  t.resNum = .of num ∧ t.resDen = .of den ∧ t.resChr = s.resChr ∧ SameFields s t

/-- RES_F0, RES_F1 and RES_F2 hold three fields, the other result registers being unchanged. -/
def OnlyFields (f0 : BitVec 16) (f1 f2 : Byte) (s t : State) : Prop :=
  t.resF0 = .of f0 ∧ t.resF1 = .of f1 ∧ t.resF2 = .of f2 ∧ SameRational s t ∧ t.resChr = s.resChr

/-- RES_NUM / RES_DEN hold `num / den` and RES_CHR a letter, the date and time registers being unchanged. -/
def OnlyCoordinate (num den : Word) (chr : Byte) (s t : State) : Prop :=
  t.resNum = .of num ∧ t.resDen = .of den ∧ t.resChr = .of chr ∧ SameFields s t

/-- A control command `i` writes `value` to `reg` and settles, on `Ok` and on `Err` (R160 to R164, R168, R169). Under
SimDevice an `Ok` write leaves the byte in the device (R79); with the real device no content is kept, the model's choice
(log 8). -/
def ControlWrite (i : Instr) (reg value : Byte) : Prop :=
  ∀ (s : State) (r : WriteResult), s.status.ready = true → s.writeAnswer = some r →
    ∃ t, exec i s = .next t ∧
      t.history = s.history ++ [.busWrite s.devAddr reg [value] r, .settle s.cfg.settleMs] ∧
      t.status.toWord = (if r = .ok then 0x002 else 0x006) ∧
      (s.cfg.simDevice = true → r = .ok → Memory.read t.device reg.toNat = value) ∧
      SameDeviceOutside reg.toNat 1 s t ∧ (s.cfg.simDevice = false → SameDevice s t) ∧
      SameResults s t ∧ t.rxbuf = s.rxbuf ∧ t.settleOwed = s.settleOwed ∧ HazardChecked s t ∧ CommandFrame s t ∧
      t.txns = s.txns + 1

/-- The raw path through RXBUF and the accessor `i` agree: RDREG of `n` bytes at `reg` and then the decoder `d` leave the
result registers, STATUS, the history and the model faults that `i` leaves, for the same answer of the bus. -/
def RawPathAgrees (i d : Instr) (reg n : Byte) : Prop :=
  ∀ (s : State) (bytes : List Byte), s.status.ready = true → s.buffersSized → s.cfg.legal = true →
    s.readAnswer reg n.toNat = some (.ok bytes) →
    ∃ t u v, exec (.rdreg reg n) s = .next t ∧ exec d t = .next u ∧ exec i s = .next v ∧
      u.resNum = v.resNum ∧ u.resDen = v.resDen ∧ u.resChr = v.resChr ∧ SameFields u v ∧ u.status = v.status ∧
      u.history = v.history ∧ u.modelFaults = v.modelFaults ∧ SameDevice u v

end Sys2Proof.Machine

namespace Sys2Proof

/-! ### The summary of writers (R51) -/

/-- The command writes RES_NUM and RES_DEN. -/
def Instr.writesRational : Instr → Bool
  | .deccoord | .dectriple | .getmode | .getsats | .getlat | .getlon | .getalt | .getcog | .getsog => true
  | .wrreg _ _ | .rdreg _ _ | .setmode _ | .pwron | .pwroff | .rgbon | .rgboff | .getdate | .gettime => false

/-- The command writes RES_CHR. -/
def Instr.writesLetter : Instr → Bool
  | .deccoord | .getlat | .getlon => true
  | .wrreg _ _ | .rdreg _ _ | .dectriple | .setmode _ | .getmode | .pwron | .pwroff | .rgbon | .rgboff | .getsats
  | .getdate | .gettime | .getalt | .getcog | .getsog => false

/-- The command writes RES_F0, RES_F1 and RES_F2. -/
def Instr.writesFields : Instr → Bool
  | .getdate | .gettime => true
  | .wrreg _ _ | .rdreg _ _ | .deccoord | .dectriple | .setmode _ | .getmode | .pwron | .pwroff | .rgbon | .rgboff
  | .getsats | .getlat | .getlon | .getalt | .getcog | .getsog => false

/-- How many leading cells of RXBUF the command may write. -/
def Instr.rxCellsWritten : Instr → Nat
  | .rdreg _ len => len.toNat
  | .wrreg _ _ | .deccoord | .dectriple | .setmode _ | .getmode | .pwron | .pwroff | .rgbon | .rgboff | .getsats
  | .getdate | .gettime | .getlat | .getlon | .getalt | .getcog | .getsog => 0

/-- The command makes no bus transaction for any operand (R153). -/
def Instr.isDecoder : Instr → Bool
  | .deccoord | .dectriple => true
  | .wrreg _ _ | .rdreg _ _ | .setmode _ | .getmode | .pwron | .pwroff | .rgbon | .rgboff | .getsats | .getdate
  | .gettime | .getlat | .getlon | .getalt | .getcog | .getsog => false

/-- The command is a control command or a query (42_control.md, 43_query.md). -/
def Instr.isAccessor : Instr → Bool
  | .setmode _ | .getmode | .pwron | .pwroff | .rgbon | .rgboff | .getsats | .getdate | .gettime | .getlat | .getlon
  | .getalt | .getcog | .getsog => true
  | .wrreg _ _ | .rdreg _ _ | .deccoord | .dectriple => false

/-- The event is a bus transaction. -/
def Machine.Event.isTransaction : Machine.Event → Bool
  | .busWrite _ _ _ _ | .busRead _ _ _ _ => true
  | .settle _ | .delay _ => false

end Sys2Proof
end

