-- ==== Sys2Proof/Certificates/Slice0/Obligations.lean ====
section
/-! DEFINITION. The statements for the provers. OBLIGATIONS.json names each one's rules. -/

open Sys2Proof Sys2Proof.Machine

/-! ### Encoding -/

/-- Every command's word decodes to that command, with every operand at every value (R100 to R105). -/
def Obligations.DecodeOfEncode : Prop := ∀ i : Instr, decode (encode i) = .command i

/-- A word that decodes to a command is that command's word: no bit of it is dropped (R100, R101, R107). -/
def Obligations.EncodeOfDecode : Prop := ∀ (w : Word) (i : Instr), decode w = .command i → encode i = w

/-- Exactly the OP values 0x00, 0x03 to 0x0F, 0x12 to 0x1F and 0x2E to 0xFF are refused as ILLEGAL_OPCODE (R106). -/
def Obligations.ReservedOpcodesRefused : Prop :=
  ∀ w : Word, decode w = .reject .illegalOpcode ↔
    ((opField w).toNat = 0x00 ∨ (0x03 ≤ (opField w).toNat ∧ (opField w).toNat ≤ 0x0F) ∨
      (0x12 ≤ (opField w).toNat ∧ (opField w).toNat ≤ 0x1F) ∨ 0x2E ≤ (opField w).toNat)

/-- A word of a listed OP is refused as RESERVED_BITS exactly when RSV is not 0, or REG is not 0 outside format X (OP 0x01 and
0x02), or ARG is not 0 outside formats X and M (OP 0x20) (R107). -/
def Obligations.MustBeZeroFieldsRefused : Prop :=
  ∀ w : Word, decode w ≠ .reject .illegalOpcode →
    (decode w = .reject .reservedBits ↔
      (rsvField w ≠ 0 ∨ (regField w ≠ 0 ∧ opField w ≠ 0x01 ∧ opField w ≠ 0x02) ∨
        (argField w ≠ 0 ∧ opField w ≠ 0x01 ∧ opField w ≠ 0x02 ∧ opField w ≠ 0x20)))

/-- The worked encodings of R113 decode as the table says. -/
def Obligations.WorkedEncodingsDecode : Prop :=
  decode 0x02070600 = .command (.rdreg 0x07 6) ∧ decode 0x01220100 = .command (.wrreg 0x22 1) ∧
    decode 0x20000300 = .command (.setmode 3) ∧ decode 0x20000900 = .command (.setmode 9) ∧
    decode 0x29000000 = .command .getlat ∧ decode 0x2D000000 = .command .getsog ∧
    decode 0x10000000 = .command .deccoord ∧ decode 0x00000000 = .reject .illegalOpcode ∧
    decode 0x29000001 = .reject .reservedBits

/-! ### The step -/

/-- While BUSY, an engine turn is the decoded command's Execute step (R33). That a step with no turn pending and a step at the
host's `wait` are engine turns too is the model's choice, its order of turns (log 1, log 13). -/
def Obligations.StepRunsTheDecodedCommand : Prop :=
  ∀ (s : State) (i : Instr), s.status.busy = true → decode s.cmd = .command i →
    (∀ rest, s.agenda = .engine :: rest → step s = exec i (s.setAgenda rest)) ∧
      (s.agenda = [] → step s = exec i s) ∧ (∀ rest, s.agenda = .host .wait :: rest → step s = exec i s)

/-- A table word that decodes, placed for the fetch, is executed by the very next step, in the state as it was but for CMD
and BUSY. The placing is the model's interface and its choice: it stands for one host write to CMD (log 1). -/
def Obligations.PlacedWordRunsNext : Prop :=
  ∀ (s : State) (nbits w : Nat) (i : Instr), decodeTableWord nbits w = some i →
    step (s.withFetchWord nbits w) = exec i { s with cmd := tableWord nbits w, status := { s.status with busy := true } }

/-- The Issue step: a whole write to CMD while IDLE stores the word and sets BUSY, and changes nothing else (R33, R34). -/
def Obligations.IssueStoresCommandAndSetsBusy : Prop :=
  ∀ (s : State) (w : Word) (rest : List Turn), s.status.busy = false → s.agenda = .host (.write 0x000 4 w) :: rest →
    step s = .next { s with agenda := rest, cmd := w, status := { s.status with busy := true } }

/-- Every step of the machine, from every state, has a next state: no bus failure (R133), command fault (R210, R212) or host
access stops the block. That it goes on with a model fault recorded is the model's choice (log 26), and so is the next state
while the bus never answers (log 7). -/
def Obligations.EveryStepHasANextState : Prop := ∀ s : State, ∃ t, step s = .next t

/-! ### Command faults -/

/-- While READY = 0 every command ends in NOT_READY and changes nothing but STATUS, and so does the Execute step of any word
in CMD, decodable or not (R212, R215). -/
def Obligations.NotReadyRefusesEveryCommand : Prop :=
  ∀ s : State, s.status.ready = false →
    (∀ i : Instr, exec i s = .next { s with status := ⟨false, false, false, false, false, true, 5⟩ }) ∧
      (s.status.busy = true → ∀ rest, s.agenda = .engine :: rest →
        step s = .next { s with agenda := rest, status := ⟨false, false, false, false, false, true, 5⟩ })

/-- A word of a reserved opcode ends in ILLEGAL_OPCODE, and one with a nonzero must-be-zero field in RESERVED_BITS, with
READY = 1; with READY = 0 either ends in NOT_READY. Nothing but STATUS changes. -/
def Obligations.UndecodableWordFaults : Prop :=
  ∀ (s : State) (rest : List Turn) (c : Cause), s.status.busy = true → s.agenda = .engine :: rest →
    decode s.cmd = .reject c →
    (c = .illegalOpcode ∨ c = .reservedBits) ∧
      step s = .next { s with
        agenda := rest
        status := ⟨false, s.status.ready, false, false, false, true,
          if s.status.ready = false then 5 else if c = .illegalOpcode then 1 else 2⟩ }

/-- WRREG and RDREG with LEN = 0 or LEN > MAX_XFER end in BAD_LENGTH, whatever REG is, and change nothing but STATUS (R104,
R221, R222). -/
def Obligations.BadLengthFaults : Prop :=
  ∀ (s : State) (reg len : Byte), s.status.ready = true → (len.toNat = 0 ∨ s.cfg.maxXfer < len.toNat) →
    exec (.wrreg reg len) s = .next { s with status := ⟨false, true, false, false, false, true, 3⟩ } ∧
      exec (.rdreg reg len) s = .next { s with status := ⟨false, true, false, false, false, true, 3⟩ }

/-- WRREG and RDREG of a legal length with REG + LEN > 256 end in BAD_RANGE and change nothing but STATUS (R223). -/
def Obligations.BadRangeFaults : Prop :=
  ∀ (s : State) (reg len : Byte), s.status.ready = true → 1 ≤ len.toNat → len.toNat ≤ s.cfg.maxXfer →
    256 < reg.toNat + len.toNat →
    exec (.wrreg reg len) s = .next { s with status := ⟨false, true, false, false, false, true, 4⟩ } ∧
      exec (.rdreg reg len) s = .next { s with status := ⟨false, true, false, false, false, true, 4⟩ }

/-! ### Transaction commands -/

/-- WRREG sends TXBUF[0..LEN-1] in one write, sets IOERR on `Err`, owes a settle exactly when it covers 0x22 to 0x24 or one
was owed, and under SimDevice an `Ok` write leaves the bytes in the device (R77, R79, R130). That with the real device no
content is kept, so that the model's device memory is unchanged, is the model's choice (log 8). -/
def Obligations.WrregWritesPayload : Prop :=
  ∀ (s : State) (reg len : Byte) (r : WriteResult), s.status.ready = true → 1 ≤ len.toNat →
    len.toNat ≤ s.cfg.maxXfer → reg.toNat + len.toNat ≤ 256 →
    (∀ i, i < len.toNat → (cellAt s.txbuf i).valid = true) → s.writeAnswer = some r →
    ∃ t, exec (.wrreg reg len) s = .next t ∧
      t.history = s.history ++
        [.busWrite s.devAddr reg ((List.range len.toNat).map fun i => (cellAt s.txbuf i).bits) r] ∧
      t.status.toWord = (if r = .ok then 0x002 else 0x006) ∧
      (t.settleOwed = true ↔ s.settleOwed = true ∨ (reg.toNat ≤ 0x24 ∧ 0x22 ≤ reg.toNat + len.toNat - 1)) ∧
      (s.cfg.simDevice = true → r = .ok →
        ∀ i, i < len.toNat → Memory.read t.device (reg.toNat + i) = (cellAt s.txbuf i).bits) ∧
      SameDeviceOutside reg.toNat len.toNat s t ∧ (s.cfg.simDevice = false → SameDevice s t) ∧
      SameResults s t ∧ t.rxbuf = s.rxbuf ∧ HazardChecked s t ∧ CommandFrame s t ∧ t.txns = s.txns + 1

/-- WRREG with a cell of TXBUF[0..LEN-1] that holds ⊥ records NoValue (R130, R218). That it then makes no transaction, owes no
settle and completes is the model's choice, after the test vector of 95_test_vectors.md 2.2 (log 4). -/
def Obligations.WrregOfMissingValueRecordsNoValue : Prop :=
  ∀ (s : State) (reg len : Byte) (i : Nat), s.status.ready = true → 1 ≤ len.toNat →
    len.toNat ≤ s.cfg.maxXfer → reg.toNat + len.toNat ≤ 256 → i < len.toNat → (cellAt s.txbuf i).valid = false →
    exec (.wrreg reg len) s = .next { s with
      status := ⟨false, true, false, false, false, false, 0⟩
      modelFaults := { s.modelFaults with noValue := true } }

/-- RDREG whose read succeeds gets exactly LEN bytes, stores them in RXBUF[0..LEN-1] and keeps the cells above (R75, R131). -/
def Obligations.RdregStoresBytes : Prop :=
  ∀ (s : State) (reg len : Byte) (bytes : List Byte), s.status.ready = true → 1 ≤ len.toNat →
    len.toNat ≤ s.cfg.maxXfer → reg.toNat + len.toNat ≤ 256 → s.buffersSized →
    s.readAnswer reg len.toNat = some (.ok bytes) →
    ∃ t, exec (.rdreg reg len) s = .next t ∧ bytes.length = len.toNat ∧
      (∀ i, i < len.toNat → cellAt t.rxbuf i = .of (byteAt bytes i)) ∧
      (∀ i, len.toNat ≤ i → cellAt t.rxbuf i = cellAt s.rxbuf i) ∧ t.rxbuf.length = s.rxbuf.length ∧
      t.status.toWord = 0x002 ∧ t.history = s.history ++ [.busRead s.devAddr reg len.toNat (.ok bytes)] ∧
      SameResults s t ∧ SameDevice s t ∧ t.settleOwed = s.settleOwed ∧ HazardChecked s t ∧ CommandFrame s t ∧
      t.txns = s.txns + 1

/-- RDREG whose read fails leaves RXBUF[0..LEN-1] holding ⊥, keeps the cells above, sets IOERR and substitutes no default
(R131, R134). -/
def Obligations.FailedRdregInvalidatesCells : Prop :=
  ∀ (s : State) (reg len : Byte), s.status.ready = true → 1 ≤ len.toNat →
    len.toNat ≤ s.cfg.maxXfer → reg.toNat + len.toNat ≤ 256 → s.buffersSized →
    s.readAnswer reg len.toNat = some .err →
    ∃ t, exec (.rdreg reg len) s = .next t ∧
      (∀ i, i < len.toNat → (cellAt t.rxbuf i).valid = false) ∧
      (∀ i, len.toNat ≤ i → cellAt t.rxbuf i = cellAt s.rxbuf i) ∧ t.rxbuf.length = s.rxbuf.length ∧
      t.status.toWord = 0x006 ∧ t.history = s.history ++ [.busRead s.devAddr reg len.toNat .err] ∧
      SameResults s t ∧ SameDevice s t ∧ t.settleOwed = s.settleOwed ∧ HazardChecked s t ∧ CommandFrame s t ∧
      t.txns = s.txns + 1

/-! ### Decoder commands -/

/-- DECCOORD decodes RXBUF[0..5] into RES_NUM, RES_DEN and RES_CHR with no bus transaction (R141, R142). -/
def Obligations.DeccoordDecodesBuffer : Prop :=
  ∀ (s : State) (deg min f2 f1 f0 chr : Byte), s.status.ready = true →
    s.rxbuf.take 6 = [.of deg, .of min, .of f2, .of f1, .of f0, .of chr] →
    ∃ t, exec .deccoord s = .next t ∧
      t.resNum = .of (BitVec.ofNat 32 (6000000 * deg.toNat + 100000 * min.toNat
        + (65536 * f2.toNat + 256 * f1.toNat + f0.toNat))) ∧
      t.resDen = .of 6000000 ∧ t.resChr = .of chr ∧ t.status.toWord = 0x002 ∧ SameFields s t ∧ t.rxbuf = s.rxbuf ∧
      t.history = s.history ∧ SameDevice s t ∧ t.settleOwed = s.settleOwed ∧ t.modelFaults = s.modelFaults ∧
      t.txns = s.txns ∧ CommandFrame s t

/-- DECTRIPLE decodes RXBUF[0..2] into RES_NUM and RES_DEN with no bus transaction and leaves RES_CHR (R144, R145). -/
def Obligations.DectripleDecodesBuffer : Prop :=
  ∀ (s : State) (hi lo frac : Byte), s.status.ready = true → s.rxbuf.take 3 = [.of hi, .of lo, .of frac] →
    ∃ t, exec .dectriple s = .next t ∧
      t.resNum = .of (BitVec.ofNat 32 (100 * (256 * hi.toNat + lo.toNat) + frac.toNat)) ∧ t.resDen = .of 100 ∧
      t.status.toWord = 0x002 ∧ t.resChr = s.resChr ∧ SameFields s t ∧ t.rxbuf = s.rxbuf ∧
      t.history = s.history ∧ SameDevice s t ∧ t.settleOwed = s.settleOwed ∧ t.modelFaults = s.modelFaults ∧
      t.txns = s.txns ∧ CommandFrame s t

/-- DECCOORD with a cell of RXBUF[0..5] that holds ⊥, and DECTRIPLE with one of RXBUF[0..2], record NoValue (R141, R144,
R218). That they complete, and leave ⊥ in exactly the registers computed from such a cell, is the model's choice (log 4). -/
def Obligations.DecoderOfMissingValueRecordsNoValue : Prop :=
  ∀ (s : State) (i : Nat), s.status.ready = true → (cellAt s.rxbuf i).valid = false →
    (i < 6 → ∃ t, exec .deccoord s = .next t ∧ t.modelFaults = { s.modelFaults with noValue := true } ∧
      (t.resNum.valid = true ↔ ∀ k, k < 5 → (cellAt s.rxbuf k).valid = true) ∧
      (t.resNum.valid = true → t.resNum.bits = BitVec.ofNat 32 (coordinateNumerator (cellBits s.rxbuf 6))) ∧
      t.resDen = .of 6000000 ∧ t.resChr.valid = (cellAt s.rxbuf 5).valid ∧
      (t.resChr.valid = true → t.resChr.bits = (cellAt s.rxbuf 5).bits) ∧ t.status.toWord = 0x002 ∧ t.history = s.history ∧ SameFields s t ∧
      t.rxbuf = s.rxbuf ∧ SameDevice s t ∧ t.settleOwed = s.settleOwed ∧ t.txns = s.txns ∧ CommandFrame s t) ∧
    (i < 3 → ∃ t, exec .dectriple s = .next t ∧ t.modelFaults = { s.modelFaults with noValue := true } ∧
      t.resNum.valid = false ∧ t.resDen = .of 100 ∧ t.resChr = s.resChr ∧ t.status.toWord = 0x002 ∧
      t.history = s.history ∧ SameFields s t ∧ t.rxbuf = s.rxbuf ∧ SameDevice s t ∧ t.settleOwed = s.settleOwed ∧
      t.txns = s.txns ∧ CommandFrame s t)

/-- Every coordinate and every triple fits RES_NUM, which holds the exact numerator: within the bounds of R143 and R146, each
attained; a coordinate's numerator is 0 only for five zero bytes, and two byte patterns can give one numerator. -/
def Obligations.NumeratorsFitTheirBounds : Prop :=
  (∀ bytes : List Byte, coordinateNumerator bytes ≤ 1572277215 ∧
      (BitVec.ofNat 32 (coordinateNumerator bytes)).toNat = coordinateNumerator bytes ∧
      (coordinateNumerator bytes = 0 ↔ ∀ i, i < 5 → byteAt bytes i = 0)) ∧
    (∀ chr : Byte, coordinateNumerator [255, 255, 255, 255, 255, chr] = 1572277215 ∧
      coordinateNumerator [0, 59, 0x01, 0x86, 0xA0, chr] = 6000000 ∧
      coordinateNumerator [1, 0, 0, 0, 0, chr] = 6000000) ∧
    (∀ bytes : List Byte, tripleNumerator bytes ≤ 6553755 ∧
      (BitVec.ofNat 32 (tripleNumerator bytes)).toNat = tripleNumerator bytes) ∧
    tripleNumerator [255, 255, 255] = 6553755

/-! ### Control commands -/

/-- Every control command writes its one byte and settles once, on `Ok` and on `Err`: SETMODE of a mode from 1 to 7 writes it
to gnss-mode, PWRON and PWROFF write 0x00 and 0x01 to sleep-mode, RGBON and RGBOFF write 0x05 and 0x02 to rgb-mode (R160 to
R164, R166, R168, R169). That with the real device no content is kept, so that the model's device memory is unchanged, is the
model's choice (log 8). -/
def Obligations.ControlCommandsWriteAndSettle : Prop :=
  (∀ mode : Byte, 1 ≤ mode.toNat → mode.toNat ≤ 7 → ControlWrite (.setmode mode) 0x22 mode) ∧
    ControlWrite .pwron 0x23 0x00 ∧ ControlWrite .pwroff 0x23 0x01 ∧ ControlWrite .rgbon 0x24 0x05 ∧
    ControlWrite .rgboff 0x24 0x02

/-- SETMODE of a mode outside 1 to 7 sets REJECTED and does nothing else: no transaction, no settle (R160, R167). -/
def Obligations.SetmodeRejectsOtherModes : Prop :=
  ∀ (s : State) (mode : Byte), s.status.ready = true → (mode.toNat < 1 ∨ 7 < mode.toNat) →
    exec (.setmode mode) s = .next { s with status := ⟨false, true, false, false, true, false, 0⟩ }

/-! ### Query commands -/

/-- GETMODE and GETSATS return the byte of gnss-mode and of satellites-used as it stands (R182, R183, R193). -/
def Obligations.CountQueriesReturnTheByte : Prop := CountQuery .getmode 0x22 ∧ CountQuery .getsats 0x13

/-- GETDATE returns the big-endian year, the month and the day from 0x00 on (R148, R184). -/
def Obligations.GetdateReturnsDate : Prop :=
  ∀ (s : State) (yh yl m d : Byte), s.status.ready = true → s.readAnswer 0x00 4 = some (.ok [yh, yl, m, d]) →
    ∃ t, exec .getdate s = .next t ∧ OnlyFields (BitVec.ofNat 16 (256 * yh.toNat + yl.toNat)) m d s t ∧
      t.status.toWord = 0x002 ∧ t.history = s.history ++ [.busRead s.devAddr 0x00 4 (.ok [yh, yl, m, d])] ∧
      QueryFrame s t

/-- GETTIME returns hour, minute and second from 0x04 on (R149, R185). -/
def Obligations.GettimeReturnsTime : Prop :=
  ∀ (s : State) (h m sec : Byte), s.status.ready = true → s.readAnswer 0x04 3 = some (.ok [h, m, sec]) →
    ∃ t, exec .gettime s = .next t ∧ OnlyFields (h.setWidth 16) m sec s t ∧ t.status.toWord = 0x002 ∧
      t.history = s.history ++ [.busRead s.devAddr 0x04 3 (.ok [h, m, sec])] ∧ QueryFrame s t

/-- GETLAT and GETLON return the coordinate from 0x07 and from 0x0D on (R142, R186, R187). -/
def Obligations.CoordinateQueriesDecode : Prop := CoordinateQuery .getlat 0x07 ∧ CoordinateQuery .getlon 0x0D

/-- GETALT, GETCOG and GETSOG return the scaled triple from 0x14, from 0x1A and from 0x17 on (R145, R188 to R190). -/
def Obligations.TripleQueriesDecode : Prop :=
  TripleQuery .getalt 0x14 ∧ TripleQuery .getcog 0x1A ∧ TripleQuery .getsog 0x17

/-- Every query whose read fails writes its documented default, with IOERR and DEFAULTED (R181, R182 to R191). That the letters
'S' and 'W' are the bytes 0x53 and 0x57 is PRESUMED (R10, log 21). -/
def Obligations.FailedQueriesWriteDefaults : Prop :=
  DefaultedQuery .getmode 0x22 1 (OnlyRational 0 1) ∧ DefaultedQuery .getsats 0x13 1 (OnlyRational 0 1) ∧
    DefaultedQuery .getdate 0x00 4 (OnlyFields 2000 1 1) ∧ DefaultedQuery .gettime 0x04 3 (OnlyFields 0 0 0) ∧
    DefaultedQuery .getlat 0x07 6 (OnlyCoordinate 0 6000000 0x53) ∧
    DefaultedQuery .getlon 0x0D 6 (OnlyCoordinate 0 6000000 0x57) ∧
    DefaultedQuery .getalt 0x14 3 (OnlyRational 0 100) ∧ DefaultedQuery .getcog 0x1A 3 (OnlyRational 0 100) ∧
    DefaultedQuery .getsog 0x17 3 (OnlyRational 0 100)

/-! ### Rules over all commands -/

/-- A command writes only the registers its rule names: the summary of writers (R51). READY keeps its value (R37). -/
def Obligations.CommandsWriteOnlyTheirRegisters : Prop :=
  ∀ (i : Instr) (s t : State), exec i s = .next t →
    (i.writesRational = false → SameRational s t) ∧ (i.writesLetter = false → t.resChr = s.resChr) ∧
      (i.writesFields = false → SameFields s t) ∧
      (∀ k, i.rxCellsWritten ≤ k → cellAt t.rxbuf k = cellAt s.rxbuf k) ∧ CommandFrame s t ∧ t.status.ready = s.status.ready

/-- A command makes at most one bus transaction, at address DEV_ADDR, and a decoder command none; what it adds to the
history is that transaction and at most one settle after it (R132, R153, R170, R194). -/
def Obligations.AtMostOneTransactionPerCommand : Prop :=
  ∀ (i : Instr) (s t : State), exec i s = .next t →
    t.history = s.history ∨
      (i.isDecoder = false ∧ ∃ e, e.isTransaction = true ∧
        ((∃ reg bytes r, e = .busWrite s.devAddr reg bytes r) ∨ ∃ reg n r, e = .busRead s.devAddr reg n r) ∧
        (t.history = s.history ++ [e] ∨ t.history = s.history ++ [e, .settle s.cfg.settleMs]))

/-- SETTLE_OWED is set only by WRREG and cleared by no command (R53). -/
def Obligations.OnlyWrregChangesSettleOwed : Prop :=
  ∀ (i : Instr) (s t : State), exec i s = .next t →
    (s.settleOwed = true → t.settleOwed = true) ∧
      (t.settleOwed ≠ s.settleOwed → ∃ reg len, i = .wrreg reg len ∧ touchesControl reg len = true)

/-- SettleHazard is recorded by a command exactly when it makes a bus transaction while a settle is owed (R216, R248). -/
def Obligations.SettleHazardRecordedExactlyOnEarlyTransaction : Prop :=
  ∀ (i : Instr) (s t : State), exec i s = .next t →
    (t.modelFaults.settleHazard = true ↔
      s.modelFaults.settleHazard = true ∨ (s.settleOwed = true ∧ t.history ≠ s.history))

/-- When the bus never answers, Execute is not enabled and the engine stays BUSY (R92). That the engine's turn then answers the
whole state as it was is the model's choice (log 7). A WRREG without payload needs no answer (log 4). -/
def Obligations.SilentBusLeavesCommandBusy : Prop :=
  ∀ s : State, s.status.ready = true → s.cfg.simDevice = false → s.nextReply = .never →
    (∀ i : Instr, i.isAccessor = true → (∀ mode, i = .setmode mode → 1 ≤ mode.toNat ∧ mode.toNat ≤ 7) →
      exec i s = .next s) ∧
    (∀ reg len : Byte, 1 ≤ len.toNat → len.toNat ≤ s.cfg.maxXfer → reg.toNat + len.toNat ≤ 256 →
      ((∀ k, k < len.toNat → (cellAt s.txbuf k).valid = true) → exec (.wrreg reg len) s = .next s) ∧
        exec (.rdreg reg len) s = .next s)

/-- Control commands and queries neither read nor write the buffers: with other buffer contents they do the same (R49,
R192). -/
def Obligations.AccessorsIgnoreTheBuffers : Prop :=
  ∀ (i : Instr) (s t : State) (tx rx : List (Slot 8)), i.isAccessor = true → exec i s = .next t →
    exec i { s with txbuf := tx, rxbuf := rx } = .next { t with txbuf := tx, rxbuf := rx }

/-! ### The bus and the simulated device -/

/-- Under SimDevice a transaction fails exactly when the schedule names its index, and an `Ok` read gives `dev[reg+i]` (R79).
That indices count from 1 is the model's choice (log 10). -/
def Obligations.SimulatedDeviceAnswers : Prop :=
  ∀ (s : State) (reg : Byte) (n : Nat), s.cfg.simDevice = true →
    (s.txns + 1 ∈ s.cfg.failures → s.readAnswer reg n = some .err ∧ s.writeAnswer = some .err) ∧
      (s.txns + 1 ∉ s.cfg.failures → s.writeAnswer = some .ok ∧
        ∃ bytes, s.readAnswer reg n = some (.ok bytes) ∧
          ∀ i, i < n → byteAt bytes i = Memory.read s.device (reg.toNat + i))

/-- Under SimDevice, SETMODE of an accepted mode and then GETMODE returns the mode (R79, R160, R182). -/
def Obligations.SetmodeThenGetmodeReturnsMode : Prop :=
  ∀ (s : State) (mode : Byte), s.status.ready = true → s.cfg.simDevice = true → s.txns + 1 ∉ s.cfg.failures →
    s.txns + 2 ∉ s.cfg.failures → 1 ≤ mode.toNat → mode.toNat ≤ 7 →
    ∃ t u, exec (.setmode mode) s = .next t ∧ exec .getmode t = .next u ∧
      Memory.read u.device 0x22 = mode ∧ u.resNum = .of (mode.setWidth 32) ∧ u.resDen = .of 1 ∧
      u.status.toWord = 0x002 ∧
      u.history = s.history ++ [.busWrite s.devAddr 0x22 [mode] .ok, .settle s.cfg.settleMs,
        .busRead s.devAddr 0x22 1 (.ok [mode])]

/-- Under SimDevice, a date written by WRREG to 0x00 to 0x03 and read by GETDATE comes back, as fields and as text (R77, R79,
R147, R148, R184). -/
def Obligations.DateRoundTrip : Prop :=
  ∀ (s : State) (year : Nat) (month day : Byte), s.status.ready = true → s.cfg.legal = true →
    s.cfg.simDevice = true → s.txns + 1 ∉ s.cfg.failures → s.txns + 2 ∉ s.cfg.failures → year < 65536 →
    s.txbuf.take 4 = [.of (BitVec.ofNat 8 (year / 256)), .of (BitVec.ofNat 8 (year % 256)), .of month, .of day] →
    ∃ t u, exec (.wrreg 0x00 4) s = .next t ∧ exec .getdate t = .next u ∧
      u.resF0 = .of (BitVec.ofNat 16 year) ∧ u.resF1 = .of month ∧ u.resF2 = .of day ∧
      u.dateText = some (renderDate year month.toNat day.toNat) ∧ u.status.toWord = 0x002 ∧ u.settleOwed = s.settleOwed

/-- Reading a field raw and decoding it in RXBUF gives what its accessor gives. -/
def Obligations.RawPathAgreesWithAccessors : Prop :=
  RawPathAgrees .getlat .deccoord 0x07 6 ∧ RawPathAgrees .getlon .deccoord 0x0D 6 ∧
    RawPathAgrees .getalt .dectriple 0x14 3 ∧ RawPathAgrees .getcog .dectriple 0x1A 3 ∧
    RawPathAgrees .getsog .dectriple 0x17 3

/-! ### The host window -/

/-- The window map (R32, R85): the named registers, the cells of both buffers where the two do not overlap, and every other
multiple of 4 reserved. -/
def Obligations.WindowMap : Prop :=
  ∀ maxXfer : Nat,
    (windowRegister maxXfer 0x000 = .cmd ∧ windowRegister maxXfer 0x004 = .status ∧
      windowRegister maxXfer 0x008 = .resNum ∧ windowRegister maxXfer 0x00C = .resDen ∧
      windowRegister maxXfer 0x010 = .resChr ∧ windowRegister maxXfer 0x014 = .resF0 ∧
      windowRegister maxXfer 0x018 = .resF1 ∧ windowRegister maxXfer 0x01C = .resF2 ∧
      windowRegister maxXfer 0x020 = .devAddr) ∧
    (∀ i, i < maxXfer → i < 64 → windowRegister maxXfer (0x100 + 4 * i) = .tx i) ∧
    (∀ i, i < maxXfer → maxXfer ≤ 64 + i → windowRegister maxXfer (0x200 + 4 * i) = .rx i) ∧
    (∀ k, 9 ≤ k → (4 * k < 0x100 ∨ 0x100 + 4 * maxXfer ≤ 4 * k) → (4 * k < 0x200 ∨ 0x200 + 4 * maxXfer ≤ 4 * k) →
      windowRegister maxXfer (4 * k) = .reserved)

/-- A whole read of CMD, STATUS or DEV_ADDR gives its value in any engine state, and one of a reserved offset gives 0 while IDLE;
nothing else changes (R32, R33, R85). While BUSY a reserved offset is no register the host may read: the model's choice (log
16), stated in `BusyAllowsOnlyItsReads`. -/
def Obligations.ReadableRegistersAnswerAnyTime : Prop :=
  ∀ (s : State) (rest : List Turn) (offset : Nat) (r : WindowRegister) (w : Word),
    s.agenda = .host (.read offset 4) :: rest → offset % 4 = 0 → windowRegister s.cfg.maxXfer offset = r →
    ((r = .cmd ∧ w = s.cmd) ∨ (r = .status ∧ w = s.status.toWord) ∨ (r = .devAddr ∧ w = s.devAddr.setWidth 32) ∨
      (r = .reserved ∧ s.status.busy = false ∧ w = 0)) →
    step s = .next { s with agenda := rest, replies := s.replies ++ [w] }

/-- While IDLE, a whole read of a result register or buffer cell that holds a value gives it zero-extended, and nothing else
changes (R32). -/
def Obligations.IdleReadsGiveValues : Prop :=
  ∀ (s : State) (rest : List Turn) (offset : Nat) (r : WindowRegister) (w : Word), s.status.busy = false →
    s.agenda = .host (.read offset 4) :: rest → offset % 4 = 0 → windowRegister s.cfg.maxXfer offset = r →
    ((r = .resNum ∧ s.resNum = .of w) ∨ (r = .resDen ∧ s.resDen = .of w) ∨
      (∃ c : Byte, w = c.setWidth 32 ∧ ((r = .resChr ∧ s.resChr = .of c) ∨ (r = .resF1 ∧ s.resF1 = .of c) ∨
        (r = .resF2 ∧ s.resF2 = .of c) ∨ (∃ i, r = .tx i ∧ cellAt s.txbuf i = .of c) ∨
        ∃ i, r = .rx i ∧ cellAt s.rxbuf i = .of c)) ∨
      (∃ f : BitVec 16, w = f.setWidth 32 ∧ r = .resF0 ∧ s.resF0 = .of f)) →
    step s = .next { s with agenda := rest, replies := s.replies ++ [w] }

/-- While IDLE, a whole read of a result register or buffer cell that holds ⊥ records NoValue, gives no value, and nothing
else changes (R218). -/
def Obligations.ReadOfMissingValueRecordsNoValue : Prop :=
  ∀ (s : State) (rest : List Turn) (offset : Nat) (r : WindowRegister), s.status.busy = false →
    s.agenda = .host (.read offset 4) :: rest → offset % 4 = 0 → windowRegister s.cfg.maxXfer offset = r →
    ((r = .resNum ∧ s.resNum.valid = false) ∨ (r = .resDen ∧ s.resDen.valid = false) ∨
      (r = .resChr ∧ s.resChr.valid = false) ∨ (r = .resF0 ∧ s.resF0.valid = false) ∨
      (r = .resF1 ∧ s.resF1.valid = false) ∨ (r = .resF2 ∧ s.resF2.valid = false) ∨
      (∃ i, r = .tx i ∧ (cellAt s.txbuf i).valid = false) ∨ ∃ i, r = .rx i ∧ (cellAt s.rxbuf i).valid = false) →
    step s = .next { s with agenda := rest, modelFaults := { s.modelFaults with noValue := true } }

/-- While IDLE, a whole write to a buffer cell stores the low byte there and keeps every other cell and all else (R32, R49,
R50). -/
def Obligations.BufferWritesStoreOneCell : Prop :=
  ∀ (s : State) (rest : List Turn) (offset i : Nat) (w : Word), s.status.busy = false →
    s.agenda = .host (.write offset 4 w) :: rest → offset % 4 = 0 → s.buffersSized → i < s.cfg.maxXfer →
    (windowRegister s.cfg.maxXfer offset = .tx i → ∃ cells, step s = .next { s with agenda := rest, txbuf := cells } ∧
      cells.length = s.txbuf.length ∧
      ∀ k, cellAt cells k = if k = i then .of (w.setWidth 8) else cellAt s.txbuf k) ∧
    (windowRegister s.cfg.maxXfer offset = .rx i → ∃ cells, step s = .next { s with agenda := rest, rxbuf := cells } ∧
      cells.length = s.rxbuf.length ∧
      ∀ k, cellAt cells k = if k = i then .of (w.setWidth 8) else cellAt s.rxbuf k)

/-- While IDLE, a whole write to a read-only register or a reserved offset is ignored (R85). While BUSY it is ignored and recorded
as HostWhileBusy: the model's choice (log 16), stated in `BusyAllowsOnlyItsReads`. -/
def Obligations.ReadOnlyWritesIgnored : Prop :=
  ∀ (s : State) (rest : List Turn) (offset : Nat) (w : Word), s.status.busy = false →
    s.agenda = .host (.write offset 4 w) :: rest → offset % 4 = 0 → windowRegister s.cfg.maxXfer offset ≠ .cmd →
    (∀ i, windowRegister s.cfg.maxXfer offset ≠ .tx i ∧ windowRegister s.cfg.maxXfer offset ≠ .rx i) →
    step s = .next { s with agenda := rest }

/-- While BUSY, a whole write to CMD, TXBUF or RXBUF, or a whole read of a result register or a buffer cell, records
HostWhileBusy and changes nothing else (R33, R217). -/
def Obligations.BusyAccessRecordsHostWhileBusy : Prop :=
  ∀ (s : State) (rest : List Turn) (offset : Nat) (r : WindowRegister) (w : Word), s.status.busy = true →
    offset % 4 = 0 → windowRegister s.cfg.maxXfer offset = r →
    (s.agenda = .host (.write offset 4 w) :: rest ∧ (r = .cmd ∨ (∃ i, r = .tx i) ∨ ∃ i, r = .rx i)) ∨
      (s.agenda = .host (.read offset 4) :: rest ∧ (r = .resNum ∨ r = .resDen ∨ r = .resChr ∨ r = .resF0 ∨ r = .resF1 ∨
        r = .resF2 ∨ (∃ i, r = .tx i) ∨ ∃ i, r = .rx i)) →
    step s = .next { s with agenda := rest, modelFaults := { s.modelFaults with hostWhileBusy := true } }

/-- A window access that is not a whole 32-bit access at a multiple of 4 records HostMisaligned and performs no access
(R84, R219). That while BUSY it records HostMisaligned alone is the model's choice (log 16). -/
def Obligations.MisalignedAccessRecorded : Prop :=
  ∀ (s : State) (rest : List Turn) (offset width : Nat) (w : Word), (width ≠ 4 ∨ offset % 4 ≠ 0) →
    (s.agenda = .host (.write offset width w) :: rest ∨ s.agenda = .host (.read offset width) :: rest) →
    step s = .next { s with agenda := rest, modelFaults := { s.modelFaults with hostMisaligned := true } }

/-- `Delay(ms)`, in any engine state, appends its event, clears SETTLE_OWED exactly when ms ≥ SETTLE_MS, and changes no
register (R247). -/
def Obligations.DelayClearsSettleOwed : Prop :=
  ∀ (s : State) (rest : List Turn) (ms : Nat), s.agenda = .host (.delay ms) :: rest →
    step s = .next { s with
      agenda := rest
      history := s.history ++ [.delay ms]
      settleOwed := if s.cfg.settleMs ≤ ms then false else s.settleOwed }

/-! ### Reset -/

/-- What construction leaves, for every parameter value and either draw of `init_ok` (R57, R241): no register or cell holds
a value, DEV_ADDR is the parameter, READY is the draw. -/
def Obligations.ConstructionLeavesResetValues : Prop :=
  ∀ (cfg : Config) (initOk : Bool), ∃ s, s = State.constructed cfg initOk ∧ s.cfg = cfg ∧ s.cmd = 0x00000000 ∧
    s.status.toWord = (if initOk then 0x002 else 0x000) ∧
    s.resNum.valid = false ∧ s.resDen.valid = false ∧ s.resChr.valid = false ∧ s.resF0.valid = false ∧
    s.resF1.valid = false ∧ s.resF2.valid = false ∧
    (∀ i, (cellAt s.txbuf i).valid = false ∧ (cellAt s.rxbuf i).valid = false) ∧
    s.devAddr = cfg.devAddr ∧ s.settleOwed = false ∧ s.modelFaults = ModelFaults.none ∧ s.history = []

/-- A reset of an IDLE block puts it at construction's values with the draw in READY, and leaves the device as it was
(R57, R240, R241, R243). That the model fault record stays (R235, against R57) is the
model's choice (log 12), and so are the transaction count that goes on (log 10), the bus's answers and the draws (log 6), the
pending turns (log 1) and the host's replies (log 14), which lie outside the block. -/
def Obligations.ResetOfIdleBlock : Prop :=
  ∀ (s : State) (rest : List Turn) (initOk : Bool), s.status.busy = false → s.agenda = .reset initOk :: rest →
    step s = .next { State.constructed s.cfg initOk with
      modelFaults := s.modelFaults, device := s.device, bus := s.bus, agenda := rest, replies := s.replies,
      txns := s.txns, draws := s.draws }

/-- A reset while BUSY abandons the command (R80, R242): every field is at construction's value, but for what lies outside the
block, and only the registers that the abandoned write targeted can read otherwise than before. Which transaction is in flight,
that it counts as made and failed, and that it records neither an event nor SettleHazard are the model's choices (log 11); so are
the record that stays (log 12), the counts (log 6, log 10), the pending turns (log 1) and the replies (log 14). -/
def Obligations.ResetWhileBusyAbandonsCommand : Prop :=
  ∀ (s : State) (rest : List Turn) (initOk : Bool), s.status.busy = true → s.agenda = .reset initOk :: rest →
    (inFlight s = none → step s = .next { State.constructed s.cfg initOk with
      modelFaults := s.modelFaults, device := s.device, bus := s.bus, agenda := rest, replies := s.replies,
      txns := s.txns, draws := s.draws }) ∧
    (∀ reg n, inFlight s = some (.read reg n) → step s = .next { State.constructed s.cfg initOk with
      modelFaults := s.modelFaults, device := s.device, bus := if s.cfg.simDevice then s.bus else s.bus.tail,
      agenda := rest, replies := s.replies, txns := s.txns + 1, draws := s.draws + n }) ∧
    (∀ reg n, inFlight s = some (.write reg n) → ∃ m : Memory, step s = .next { State.constructed s.cfg initOk with
        modelFaults := s.modelFaults, device := m, bus := if s.cfg.simDevice then s.bus else s.bus.tail,
        agenda := rest, replies := s.replies, txns := s.txns + 1, draws := s.draws + n } ∧
      ∀ a, (a < reg.toNat ∨ reg.toNat + n ≤ a) → Memory.read m a = Memory.read s.device a)

/-- What construction leaves meets every invariant below, for every parameter value and either draw of `init_ok`; State.reset is
the one with the default parameters and the draw true, the model's choice (log 2). -/
def Obligations.ResetMeetsInvariants : Prop :=
  State.reset = State.constructed .standard true ∧
    ∀ (cfg : Config) (initOk : Bool), (State.constructed cfg initOk).statusLegal ∧
      (State.constructed cfg initOk).rationalLegal ∧ (State.constructed cfg initOk).buffersSized ∧
      (State.constructed cfg initOk).addressFixed ∧ (State.constructed cfg initOk).deviceCanonical

/-! ### Invariants of every step -/

/-- Every step keeps STATUS, BUSY apart, at a value of R222, or with READY = 0 at the value after reset (R57). -/
def Obligations.StepsKeepStatusLegal : Prop :=
  ∀ s t : State, s.statusLegal → step s = .next t → t.statusLegal

/-- Every step keeps RES_NUM and RES_DEN legal: a denominator that holds a value is one of R44, and a numerator that holds one has
such a denominator and is in its bound (R143, R146). -/
def Obligations.StepsKeepRationalLegal : Prop :=
  ∀ s t : State, s.rationalLegal → step s = .next t → t.rationalLegal

/-- Every step keeps the buffers at MAX_XFER cells and DEV_ADDR at its parameter, and no step changes a parameter (R8, R48 to
R50). -/
def Obligations.StepsKeepSizesAndAddress : Prop :=
  ∀ s t : State, s.buffersSized → s.addressFixed → step s = .next t → t.buffersSized ∧ t.addressFixed ∧ t.cfg = s.cfg

/-- Every step keeps the device memory in its canonical form. -/
def Obligations.StepsKeepDeviceCanonical : Prop :=
  ∀ s t : State, s.deviceCanonical → step s = .next t → t.deviceCanonical

/-- No step removes a model fault from the record, block reset included (R235). That a reset keeps the record, against R57, is
the model's choice (log 12). -/
def Obligations.ModelFaultsAreNeverCleared : Prop :=
  ∀ s t : State, step s = .next t → s.modelFaults.within t.modelFaults

/-! ### The assembler -/

/-- The assembler turns every mnemonic with its operands into the command's word, whatever the block makes of the operands, and
refuses an operand above 255, a missing and an extra operand and an unknown mnemonic (R105, R108). That the count is judged
before the range is the model's choice (log 27). -/
def Obligations.AssemblerEmitsCommandWords : Prop :=
  ∀ (line a b c : Nat) (ops : List Nat),
    (∀ p ∈ [("wrreg", Instr.wrreg), ("rdreg", Instr.rdreg)],
      (a ≤ 255 → b ≤ 255 →
        assembleOperation line p.1 [a, b] = .word (encode (p.2 (BitVec.ofNat 8 a) (BitVec.ofNat 8 b)))) ∧
      (255 < a ∨ 255 < b → assembleOperation line p.1 [a, b] = .refused line .operandRange) ∧
      assembleOperation line p.1 [] = .refused line .missingOperand ∧
      assembleOperation line p.1 [a] = .refused line .missingOperand ∧
      assembleOperation line p.1 (a :: b :: c :: ops) = .refused line .extraOperand) ∧
    (a ≤ 255 → assembleOperation line "setmode" [a] = .word (encode (.setmode (BitVec.ofNat 8 a)))) ∧
    (255 < a → assembleOperation line "setmode" [a] = .refused line .operandRange) ∧
    assembleOperation line "setmode" [] = .refused line .missingOperand ∧
    assembleOperation line "setmode" (a :: b :: ops) = .refused line .extraOperand ∧
    (∀ p ∈ plainCommands, assembleOperation line p.1 [] = .word (encode p.2) ∧
      assembleOperation line p.1 (a :: ops) = .refused line .extraOperand) ∧
    (∀ m : String, m ∉ ["wrreg", "rdreg", "setmode", ".word"] → (∀ p ∈ plainCommands, m ≠ p.1) →
      assembleOperation line m ops = .refused line .unknownMnemonic)

/-! ### Further rules of the host's side -/

/-- While BUSY, every whole host write, and every whole host read of anything but CMD, STATUS and DEV_ADDR, records HostWhileBusy
and changes nothing else (R33, R249). That this takes in read-only registers and reserved offsets, which R217 and R33's list do
not name, is the model's choice between them and R249 (log 16). -/
def Obligations.BusyAllowsOnlyItsReads : Prop :=
  ∀ (s : State) (rest : List Turn) (offset : Nat) (w : Word), s.status.busy = true → offset % 4 = 0 →
    (s.agenda = .host (.write offset 4 w) :: rest ∨
      (s.agenda = .host (.read offset 4) :: rest ∧ windowRegister s.cfg.maxXfer offset ≠ .cmd ∧
        windowRegister s.cfg.maxXfer offset ≠ .status ∧ windowRegister s.cfg.maxXfer offset ≠ .devAddr)) →
    step s = .next { s with agenda := rest, modelFaults := { s.modelFaults with hostWhileBusy := true } }

/-- While IDLE, `wait` is one read of STATUS (R109) and the engine has no step to take (R33, R244). That an engine turn then
leaves all but the agenda as it is, and a step with no turn pending the whole state, is the model's choice (log 1, log 13). -/
def Obligations.IdleWaitReadsStatusAndIdleEngineRests : Prop :=
  ∀ s : State, s.status.busy = false →
    (∀ rest, s.agenda = .host .wait :: rest →
      step s = .next { s with agenda := rest, replies := s.replies ++ [s.status.toWord] }) ∧
    (∀ rest, s.agenda = .engine :: rest → step s = .next { s with agenda := rest }) ∧
    (s.agenda = [] → step s = .next s)
end

