-- ==== Sys2Proof/Laws/Encoding.lean ====
section
/-! SUPPORT. The fields of a command word (R100): each is where the encoder puts it, and a word is its fields. -/

namespace Sys2Proof

theorem opField_commandWord (op reg arg : Byte) : opField (commandWord op reg arg) = op := by
  apply BitVec.eq_of_getLsbD_eq
  intro i hi
  simp only [opField, commandWord, BitVec.getLsbD_extractLsb', BitVec.getLsbD_append]
  simp [hi, show ¬(24 + i < 8) by omega,
    show ¬(24 + i - 8 < 8) by omega, show ¬(24 + i - 8 - 8 < 8) by omega, show 24 + i - 8 - 8 - 8 = i by omega]

theorem regField_commandWord (op reg arg : Byte) : regField (commandWord op reg arg) = reg := by
  apply BitVec.eq_of_getLsbD_eq
  intro i hi
  simp only [regField, commandWord, BitVec.getLsbD_extractLsb', BitVec.getLsbD_append]
  simp [hi, show ¬(16 + i < 8) by omega,
    show ¬(16 + i - 8 < 8) by omega, show 16 + i - 8 - 8 = i by omega]

theorem argField_commandWord (op reg arg : Byte) : argField (commandWord op reg arg) = arg := by
  apply BitVec.eq_of_getLsbD_eq
  intro i hi
  simp only [argField, commandWord, BitVec.getLsbD_extractLsb', BitVec.getLsbD_append]
  simp [hi, show ¬(8 + i < 8) by omega,
    show 8 + i - 8 = i by omega]

theorem rsvField_commandWord (op reg arg : Byte) : rsvField (commandWord op reg arg) = 0 := by
  apply BitVec.eq_of_getLsbD_eq
  intro i hi
  simp only [rsvField, commandWord, BitVec.getLsbD_extractLsb', BitVec.getLsbD_append]
  simp [hi]

/-- A word whose RSV is 0 is the command word of its other fields. -/
theorem commandWord_fields (w : Word) (h : rsvField w = 0) :
    commandWord (opField w) (regField w) (argField w) = w := by
  apply BitVec.eq_of_getLsbD_eq
  intro i hi
  simp only [commandWord, opField, regField, argField, BitVec.getLsbD_append, BitVec.getLsbD_extractLsb']
  by_cases h1 : i < 8
  · have := congrArg (fun b : Byte => b.getLsbD i) h
    simp [rsvField, h1] at this
    simp [h1, this]
  · by_cases h2 : i < 16
    · simp [h1, show i - 8 < 8 by omega, show 8 + (i - 8) = i by omega]
    · by_cases h3 : i < 24
      · simp [h1, show ¬(i - 8 < 8) by omega, show i - 8 - 8 < 8 by omega, show 16 + (i - 8 - 8) = i by omega]
      · simp [h1, show ¬(i - 8 < 8) by omega, show ¬(i - 8 - 8 < 8) by omega, show i - 8 - 8 - 8 < 8 by omega,
          show 24 + (i - 8 - 8 - 8) = i by omega]

end Sys2Proof
end

