-- ==== Sys2Proof/Laws/Memory.lean ====
section
/-! SUPPORT. The device memory: read after write, frames, and that every operation keeps the canonical form. -/

namespace Sys2Proof.Machine

theorem Memory.find_write (m : Memory) (a b : Nat) (v : Byte) :
    Memory.find (Memory.write m a v) b = if b = a then some v else Memory.find m b := by
  induction m with
  | nil =>
    by_cases h : b = a
    · simp [Memory.write, Memory.find, h]
    · simp [Memory.write, Memory.find, h, Ne.symm h]
  | cons c rest ih =>
    obtain ⟨a', v'⟩ := c
    simp only [Memory.write]
    by_cases h1 : a < a'
    · by_cases h : b = a
      · simp [h1, Memory.find, h]
      · simp [h1, Memory.find, h, Ne.symm h]
    · by_cases h2 : a = a'
      · subst h2
        by_cases h : b = a
        · simp [Memory.find, h]
        · simp [Memory.find, h, Ne.symm h]
      · by_cases h3 : a' = b
        · subst h3
          simp [h1, h2, Memory.find, Ne.symm h2]
        · simp [h1, h2, Memory.find, h3, ih]

/-- Read after write, at the offset written and at every other. -/
theorem Memory.read_write (m : Memory) (a b : Nat) (v : Byte) :
    Memory.read (Memory.write m a v) b = if b = a then v else Memory.read m b := by
  unfold Memory.read
  rw [Memory.find_write]
  by_cases h : b = a <;> simp [h]

theorem Memory.read_writeBytes_outside (bytes : List Byte) :
    ∀ (m : Memory) (a b : Nat), (b < a ∨ a + bytes.length ≤ b) →
      Memory.read (Memory.writeBytes m a bytes) b = Memory.read m b := by
  induction bytes with
  | nil => intro m a b _; rfl
  | cons v rest ih =>
    intro m a b h
    simp only [List.length_cons] at h
    rw [Memory.writeBytes, ih _ _ _ (by omega), Memory.read_write, if_neg (by omega)]

theorem Memory.read_writeBytes_inside (bytes : List Byte) :
    ∀ (m : Memory) (a i : Nat), i < bytes.length →
      Memory.read (Memory.writeBytes m a bytes) (a + i) = bytes.getD i 0 := by
  induction bytes with
  | nil => intro m a i h; simp at h
  | cons v rest ih =>
    intro m a i h
    cases i with
    | zero =>
      rw [Memory.writeBytes, Memory.read_writeBytes_outside _ _ _ _ (by omega), Memory.read_write]
      simp
    | succ k =>
      simp only [List.length_cons, Nat.add_lt_add_iff_right] at h
      have := ih (Memory.write m a v) (a + 1) k h
      rw [Memory.writeBytes, show a + (k + 1) = a + 1 + k by omega, this]
      simp

/-- The canonical form, said of the tail: a first offset bounds no later one from above. -/
theorem Memory.wf_cons {a : Nat} {v : Byte} {rest : Memory} (h : Memory.wf ((a, v) :: rest) = true) :
    Memory.wf rest = true ∧ a < 256 := by
  induction rest generalizing a v with
  | nil => simpa [Memory.wf] using h
  | cons c rest ih =>
    obtain ⟨a', v'⟩ := c
    simp only [Memory.wf, Bool.and_eq_true, decide_eq_true_eq] at h
    exact ⟨h.2, lt_trans h.1 (ih h.2).2⟩

/-- Prepending a smaller offset keeps the form. -/
theorem Memory.wf_cons_of_lt {a a' : Nat} {v v' : Byte} {rest : Memory} (h : a < a')
    (hw : Memory.wf ((a', v') :: rest) = true) : Memory.wf ((a, v) :: (a', v') :: rest) = true := by
  simp [Memory.wf, h, hw]

/-- The form does not depend on the first entry's byte. -/
theorem Memory.wf_setHead {a : Nat} {v v' : Byte} {rest : Memory} (h : Memory.wf ((a, v) :: rest) = true) :
    Memory.wf ((a, v') :: rest) = true := by
  cases rest with
  | nil => simpa [Memory.wf] using h
  | cons c rest => obtain ⟨a'', v''⟩ := c; simpa [Memory.wf] using h

/-- Writing one byte keeps the canonical form. -/
theorem Memory.wf_write (m : Memory) (a : Nat) (v : Byte) (ha : a < 256) (h : Memory.wf m = true) :
    Memory.wf (Memory.write m a v) = true := by
  induction m with
  | nil => simpa [Memory.write, Memory.wf] using ha
  | cons c rest ih =>
    obtain ⟨a', v'⟩ := c
    simp only [Memory.write]
    by_cases h1 : a < a'
    · simpa [h1] using Memory.wf_cons_of_lt h1 h
    · by_cases h2 : a = a'
      · subst h2
        simpa using Memory.wf_setHead (v' := v) h
      · simp only [h1, h2, if_false]
        have hrest := ih (Memory.wf_cons h).1
        cases rest with
        | nil => simp [Memory.write, Memory.wf, ha]; omega
        | cons c rest =>
          obtain ⟨a'', v''⟩ := c
          simp only [Memory.wf, Bool.and_eq_true, decide_eq_true_eq] at h
          simp only [Memory.write] at hrest ⊢
          split at hrest <;> rename_i h3
          · simp only [h3, if_true]
            exact Memory.wf_cons_of_lt (by omega) hrest
          · split at hrest <;> rename_i h4
            · rw [if_neg h3, if_pos h4]
              exact Memory.wf_cons_of_lt (by omega) hrest
            · simp only [h3, h4, if_false]
              exact Memory.wf_cons_of_lt (by omega) hrest

/-- Writing bytes inside the device space keeps the canonical form. -/
theorem Memory.wf_writeBytes (bytes : List Byte) :
    ∀ (m : Memory) (a : Nat), a + bytes.length ≤ 256 → Memory.wf m = true →
      Memory.wf (Memory.writeBytes m a bytes) = true := by
  induction bytes with
  | nil => intro m a _ h; exact h
  | cons v rest ih =>
    intro m a hlen h
    simp only [List.length_cons] at hlen
    exact ih _ _ (by omega) (Memory.wf_write m a v (by omega) h)

/-- Reset's memory has the canonical form. -/
theorem reset_device_wf : Memory.wf State.reset.device = true := rfl

theorem Memory.length_readBytes (m : Memory) (a n : Nat) : (Memory.readBytes m a n).length = n := by
  simp [Memory.readBytes]

theorem Memory.byteAt_readBytes (m : Memory) (a n i : Nat) (h : i < n) :
    byteAt (Memory.readBytes m a n) i = Memory.read m (a + i) := by
  simp [byteAt, Memory.readBytes, h]

end Sys2Proof.Machine
end

