-- ==== Sys2Proof/Laws/Operands.lean ====
section
/-! SUPPORT. Buffers as operands, the checks of format X, and the bytes a transaction gives. -/

namespace Sys2Proof.Machine

theorem length_overlay (new cells : List (Slot 8)) : (overlay new cells).length = cells.length := by
  induction new generalizing cells with
  | nil => cases cells <;> rfl
  | cons c cs ih => cases cells with
    | nil => rfl
    | cons d rest => simp [overlay, ih]

/-- Inside the new cells, the overlay shows them. -/
theorem cellAt_overlay_inside (new cells : List (Slot 8)) (i : Nat) (h : i < new.length)
    (hlen : new.length ≤ cells.length) : cellAt (overlay new cells) i = cellAt new i := by
  induction new generalizing cells i with
  | nil => simp at h
  | cons c cs ih => cases cells with
    | nil => simp at hlen
    | cons d rest => cases i with
      | zero => rfl
      | succ k =>
        simp only [List.length_cons, Nat.add_lt_add_iff_right, Nat.add_le_add_iff_right] at h hlen
        simpa [overlay, cellAt] using ih rest k h hlen

/-- Beyond the new cells, the overlay shows the old ones. -/
theorem cellAt_overlay_outside (new cells : List (Slot 8)) (i : Nat) (h : new.length ≤ i) :
    cellAt (overlay new cells) i = cellAt cells i := by
  induction new generalizing cells i with
  | nil => cases cells <;> rfl
  | cons c cs ih => cases cells with
    | nil => rfl
    | cons d rest => cases i with
      | zero => simp at h
      | succ k =>
        simp only [List.length_cons, Nat.add_le_add_iff_right] at h
        simpa [overlay, cellAt] using ih rest k h

theorem length_cellBits (cells : List (Slot 8)) (n : Nat) : (cellBits cells n).length = n := by simp [cellBits]

theorem length_freeBytes (k n : Nat) : (freeBytes k n).length = n := by simp [freeBytes]

theorem length_exactly (k n : Nat) (bytes : List Byte) : (exactly k n bytes).length = n := by simp [exactly]

/-- An answer of exactly `n` bytes is given as it is. -/
theorem exactly_of_length (k : Nat) (bytes : List Byte) : exactly k bytes.length bytes = bytes := by
  apply List.ext_getElem
  · simp [exactly]
  · intro i _ h
    simp [exactly, h]

theorem cellsValid_iff (cells : List (Slot 8)) (n : Nat) :
    cellsValid cells n = true ↔ ∀ i, i < n → (cellAt cells i).valid = true := by
  simp [cellsValid]

/-- A slot whose operands have a value is unchanged. -/
@[simp] theorem Slot.known_true {w : Nat} (slot : Slot w) : slot.known true = slot := by simp [Slot.known]

@[simp] theorem Slot.known_valid {w : Nat} (known : Bool) (slot : Slot w) :
    (slot.known known).valid = (slot.valid && known) := rfl

@[simp] theorem Slot.known_bits {w : Nat} (known : Bool) (slot : Slot w) : (slot.known known).bits = slot.bits := rfl

/-- The checks of format X pass exactly on a well-formed command (R110). -/
theorem transferFault_eq_none_iff (maxXfer : Nat) (reg len : Byte) :
    transferFault maxXfer reg len = none ↔
      1 ≤ len.toNat ∧ len.toNat ≤ maxXfer ∧ reg.toNat + len.toNat ≤ 256 := by
  unfold transferFault
  split
  · simp; omega
  · split
    · simp; omega
    · simp; omega

theorem transferFault_badLength (maxXfer : Nat) (reg len : Byte) (h : len.toNat = 0 ∨ maxXfer < len.toNat) :
    transferFault maxXfer reg len = some .badLength := if_pos h

theorem transferFault_badRange (maxXfer : Nat) (reg len : Byte) (h1 : 1 ≤ len.toNat) (h2 : len.toNat ≤ maxXfer)
    (h3 : 256 < reg.toNat + len.toNat) : transferFault maxXfer reg len = some .badRange := by
  unfold transferFault
  rw [if_neg (by omega), if_pos h3]

theorem transferFault_cause (maxXfer : Nat) (reg len : Byte) (c : Cause) (h : transferFault maxXfer reg len = some c) :
    c = .badLength ∨ c = .badRange := by
  unfold transferFault at h
  split at h
  · exact .inl (by simpa using h.symm)
  · split at h
    · exact .inr (by simpa using h.symm)
    · simp at h

theorem wellFormed_wrreg_iff (maxXfer : Nat) (reg len : Byte) :
    (Instr.wrreg reg len).wellFormed maxXfer = true ↔ transferFault maxXfer reg len = none := by
  rw [transferFault_eq_none_iff]
  simp [Instr.wellFormed, Instr.lengthOk, Instr.rangeOk, and_assoc]

theorem wellFormed_rdreg_iff (maxXfer : Nat) (reg len : Byte) :
    (Instr.rdreg reg len).wellFormed maxXfer = true ↔ transferFault maxXfer reg len = none := by
  rw [transferFault_eq_none_iff]
  simp [Instr.wellFormed, Instr.lengthOk, Instr.rangeOk, and_assoc]

end Sys2Proof.Machine
end

