-- ==== Sys2Proof/Laws/State.lean ====
section
/-! SUPPORT. What each single update of State does to each field: no later proof unfolds a record update. -/

namespace Sys2Proof.Machine

/-! ### setStatus -/

@[simp] theorem State.setStatus_cfg (st : Status) (s : State) : (s.setStatus st).cfg = s.cfg := rfl
@[simp] theorem State.setStatus_cmd (st : Status) (s : State) : (s.setStatus st).cmd = s.cmd := rfl
@[simp] theorem State.setStatus_status (st : Status) (s : State) : (s.setStatus st).status = st := rfl
@[simp] theorem State.setStatus_resNum (st : Status) (s : State) : (s.setStatus st).resNum = s.resNum := rfl
@[simp] theorem State.setStatus_resDen (st : Status) (s : State) : (s.setStatus st).resDen = s.resDen := rfl
@[simp] theorem State.setStatus_resChr (st : Status) (s : State) : (s.setStatus st).resChr = s.resChr := rfl
@[simp] theorem State.setStatus_resF0 (st : Status) (s : State) : (s.setStatus st).resF0 = s.resF0 := rfl
@[simp] theorem State.setStatus_resF1 (st : Status) (s : State) : (s.setStatus st).resF1 = s.resF1 := rfl
@[simp] theorem State.setStatus_resF2 (st : Status) (s : State) : (s.setStatus st).resF2 = s.resF2 := rfl
@[simp] theorem State.setStatus_devAddr (st : Status) (s : State) : (s.setStatus st).devAddr = s.devAddr := rfl
@[simp] theorem State.setStatus_txbuf (st : Status) (s : State) : (s.setStatus st).txbuf = s.txbuf := rfl
@[simp] theorem State.setStatus_rxbuf (st : Status) (s : State) : (s.setStatus st).rxbuf = s.rxbuf := rfl
@[simp] theorem State.setStatus_settleOwed (st : Status) (s : State) : (s.setStatus st).settleOwed = s.settleOwed := rfl
@[simp] theorem State.setStatus_modelFaults (st : Status) (s : State) : (s.setStatus st).modelFaults = s.modelFaults := rfl
@[simp] theorem State.setStatus_history (st : Status) (s : State) : (s.setStatus st).history = s.history := rfl
@[simp] theorem State.setStatus_device (st : Status) (s : State) : (s.setStatus st).device = s.device := rfl
@[simp] theorem State.setStatus_bus (st : Status) (s : State) : (s.setStatus st).bus = s.bus := rfl
@[simp] theorem State.setStatus_agenda (st : Status) (s : State) : (s.setStatus st).agenda = s.agenda := rfl
@[simp] theorem State.setStatus_replies (st : Status) (s : State) : (s.setStatus st).replies = s.replies := rfl
@[simp] theorem State.setStatus_txns (st : Status) (s : State) : (s.setStatus st).txns = s.txns := rfl
@[simp] theorem State.setStatus_draws (st : Status) (s : State) : (s.setStatus st).draws = s.draws := rfl

/-! ### setRational -/

@[simp] theorem State.setRational_cfg (num den : Nat) (s : State) : (s.setRational num den).cfg = s.cfg := rfl
@[simp] theorem State.setRational_cmd (num den : Nat) (s : State) : (s.setRational num den).cmd = s.cmd := rfl
@[simp] theorem State.setRational_status (num den : Nat) (s : State) : (s.setRational num den).status = s.status := rfl
@[simp] theorem State.setRational_resNum (num den : Nat) (s : State) : (s.setRational num den).resNum = .of (BitVec.ofNat 32 num) := rfl
@[simp] theorem State.setRational_resDen (num den : Nat) (s : State) : (s.setRational num den).resDen = .of (BitVec.ofNat 32 den) := rfl
@[simp] theorem State.setRational_resChr (num den : Nat) (s : State) : (s.setRational num den).resChr = s.resChr := rfl
@[simp] theorem State.setRational_resF0 (num den : Nat) (s : State) : (s.setRational num den).resF0 = s.resF0 := rfl
@[simp] theorem State.setRational_resF1 (num den : Nat) (s : State) : (s.setRational num den).resF1 = s.resF1 := rfl
@[simp] theorem State.setRational_resF2 (num den : Nat) (s : State) : (s.setRational num den).resF2 = s.resF2 := rfl
@[simp] theorem State.setRational_devAddr (num den : Nat) (s : State) : (s.setRational num den).devAddr = s.devAddr := rfl
@[simp] theorem State.setRational_txbuf (num den : Nat) (s : State) : (s.setRational num den).txbuf = s.txbuf := rfl
@[simp] theorem State.setRational_rxbuf (num den : Nat) (s : State) : (s.setRational num den).rxbuf = s.rxbuf := rfl
@[simp] theorem State.setRational_settleOwed (num den : Nat) (s : State) : (s.setRational num den).settleOwed = s.settleOwed := rfl
@[simp] theorem State.setRational_modelFaults (num den : Nat) (s : State) : (s.setRational num den).modelFaults = s.modelFaults := rfl
@[simp] theorem State.setRational_history (num den : Nat) (s : State) : (s.setRational num den).history = s.history := rfl
@[simp] theorem State.setRational_device (num den : Nat) (s : State) : (s.setRational num den).device = s.device := rfl
@[simp] theorem State.setRational_bus (num den : Nat) (s : State) : (s.setRational num den).bus = s.bus := rfl
@[simp] theorem State.setRational_agenda (num den : Nat) (s : State) : (s.setRational num den).agenda = s.agenda := rfl
@[simp] theorem State.setRational_replies (num den : Nat) (s : State) : (s.setRational num den).replies = s.replies := rfl
@[simp] theorem State.setRational_txns (num den : Nat) (s : State) : (s.setRational num den).txns = s.txns := rfl
@[simp] theorem State.setRational_draws (num den : Nat) (s : State) : (s.setRational num den).draws = s.draws := rfl

/-! ### setLetter -/

@[simp] theorem State.setLetter_cfg (c : Byte) (s : State) : (s.setLetter c).cfg = s.cfg := rfl
@[simp] theorem State.setLetter_cmd (c : Byte) (s : State) : (s.setLetter c).cmd = s.cmd := rfl
@[simp] theorem State.setLetter_status (c : Byte) (s : State) : (s.setLetter c).status = s.status := rfl
@[simp] theorem State.setLetter_resNum (c : Byte) (s : State) : (s.setLetter c).resNum = s.resNum := rfl
@[simp] theorem State.setLetter_resDen (c : Byte) (s : State) : (s.setLetter c).resDen = s.resDen := rfl
@[simp] theorem State.setLetter_resChr (c : Byte) (s : State) : (s.setLetter c).resChr = .of c := rfl
@[simp] theorem State.setLetter_resF0 (c : Byte) (s : State) : (s.setLetter c).resF0 = s.resF0 := rfl
@[simp] theorem State.setLetter_resF1 (c : Byte) (s : State) : (s.setLetter c).resF1 = s.resF1 := rfl
@[simp] theorem State.setLetter_resF2 (c : Byte) (s : State) : (s.setLetter c).resF2 = s.resF2 := rfl
@[simp] theorem State.setLetter_devAddr (c : Byte) (s : State) : (s.setLetter c).devAddr = s.devAddr := rfl
@[simp] theorem State.setLetter_txbuf (c : Byte) (s : State) : (s.setLetter c).txbuf = s.txbuf := rfl
@[simp] theorem State.setLetter_rxbuf (c : Byte) (s : State) : (s.setLetter c).rxbuf = s.rxbuf := rfl
@[simp] theorem State.setLetter_settleOwed (c : Byte) (s : State) : (s.setLetter c).settleOwed = s.settleOwed := rfl
@[simp] theorem State.setLetter_modelFaults (c : Byte) (s : State) : (s.setLetter c).modelFaults = s.modelFaults := rfl
@[simp] theorem State.setLetter_history (c : Byte) (s : State) : (s.setLetter c).history = s.history := rfl
@[simp] theorem State.setLetter_device (c : Byte) (s : State) : (s.setLetter c).device = s.device := rfl
@[simp] theorem State.setLetter_bus (c : Byte) (s : State) : (s.setLetter c).bus = s.bus := rfl
@[simp] theorem State.setLetter_agenda (c : Byte) (s : State) : (s.setLetter c).agenda = s.agenda := rfl
@[simp] theorem State.setLetter_replies (c : Byte) (s : State) : (s.setLetter c).replies = s.replies := rfl
@[simp] theorem State.setLetter_txns (c : Byte) (s : State) : (s.setLetter c).txns = s.txns := rfl
@[simp] theorem State.setLetter_draws (c : Byte) (s : State) : (s.setLetter c).draws = s.draws := rfl

/-! ### setFields -/

@[simp] theorem State.setFields_cfg (f0 : Nat) (f1 f2 : Byte) (s : State) : (s.setFields f0 f1 f2).cfg = s.cfg := rfl
@[simp] theorem State.setFields_cmd (f0 : Nat) (f1 f2 : Byte) (s : State) : (s.setFields f0 f1 f2).cmd = s.cmd := rfl
@[simp] theorem State.setFields_status (f0 : Nat) (f1 f2 : Byte) (s : State) : (s.setFields f0 f1 f2).status = s.status := rfl
@[simp] theorem State.setFields_resNum (f0 : Nat) (f1 f2 : Byte) (s : State) : (s.setFields f0 f1 f2).resNum = s.resNum := rfl
@[simp] theorem State.setFields_resDen (f0 : Nat) (f1 f2 : Byte) (s : State) : (s.setFields f0 f1 f2).resDen = s.resDen := rfl
@[simp] theorem State.setFields_resChr (f0 : Nat) (f1 f2 : Byte) (s : State) : (s.setFields f0 f1 f2).resChr = s.resChr := rfl
@[simp] theorem State.setFields_resF0 (f0 : Nat) (f1 f2 : Byte) (s : State) : (s.setFields f0 f1 f2).resF0 = .of (BitVec.ofNat 16 f0) := rfl
@[simp] theorem State.setFields_resF1 (f0 : Nat) (f1 f2 : Byte) (s : State) : (s.setFields f0 f1 f2).resF1 = .of f1 := rfl
@[simp] theorem State.setFields_resF2 (f0 : Nat) (f1 f2 : Byte) (s : State) : (s.setFields f0 f1 f2).resF2 = .of f2 := rfl
@[simp] theorem State.setFields_devAddr (f0 : Nat) (f1 f2 : Byte) (s : State) : (s.setFields f0 f1 f2).devAddr = s.devAddr := rfl
@[simp] theorem State.setFields_txbuf (f0 : Nat) (f1 f2 : Byte) (s : State) : (s.setFields f0 f1 f2).txbuf = s.txbuf := rfl
@[simp] theorem State.setFields_rxbuf (f0 : Nat) (f1 f2 : Byte) (s : State) : (s.setFields f0 f1 f2).rxbuf = s.rxbuf := rfl
@[simp] theorem State.setFields_settleOwed (f0 : Nat) (f1 f2 : Byte) (s : State) : (s.setFields f0 f1 f2).settleOwed = s.settleOwed := rfl
@[simp] theorem State.setFields_modelFaults (f0 : Nat) (f1 f2 : Byte) (s : State) : (s.setFields f0 f1 f2).modelFaults = s.modelFaults := rfl
@[simp] theorem State.setFields_history (f0 : Nat) (f1 f2 : Byte) (s : State) : (s.setFields f0 f1 f2).history = s.history := rfl
@[simp] theorem State.setFields_device (f0 : Nat) (f1 f2 : Byte) (s : State) : (s.setFields f0 f1 f2).device = s.device := rfl
@[simp] theorem State.setFields_bus (f0 : Nat) (f1 f2 : Byte) (s : State) : (s.setFields f0 f1 f2).bus = s.bus := rfl
@[simp] theorem State.setFields_agenda (f0 : Nat) (f1 f2 : Byte) (s : State) : (s.setFields f0 f1 f2).agenda = s.agenda := rfl
@[simp] theorem State.setFields_replies (f0 : Nat) (f1 f2 : Byte) (s : State) : (s.setFields f0 f1 f2).replies = s.replies := rfl
@[simp] theorem State.setFields_txns (f0 : Nat) (f1 f2 : Byte) (s : State) : (s.setFields f0 f1 f2).txns = s.txns := rfl
@[simp] theorem State.setFields_draws (f0 : Nat) (f1 f2 : Byte) (s : State) : (s.setFields f0 f1 f2).draws = s.draws := rfl

/-! ### setTxbuf -/

@[simp] theorem State.setTxbuf_cfg (cells : List (Slot 8)) (s : State) : (s.setTxbuf cells).cfg = s.cfg := rfl
@[simp] theorem State.setTxbuf_cmd (cells : List (Slot 8)) (s : State) : (s.setTxbuf cells).cmd = s.cmd := rfl
@[simp] theorem State.setTxbuf_status (cells : List (Slot 8)) (s : State) : (s.setTxbuf cells).status = s.status := rfl
@[simp] theorem State.setTxbuf_resNum (cells : List (Slot 8)) (s : State) : (s.setTxbuf cells).resNum = s.resNum := rfl
@[simp] theorem State.setTxbuf_resDen (cells : List (Slot 8)) (s : State) : (s.setTxbuf cells).resDen = s.resDen := rfl
@[simp] theorem State.setTxbuf_resChr (cells : List (Slot 8)) (s : State) : (s.setTxbuf cells).resChr = s.resChr := rfl
@[simp] theorem State.setTxbuf_resF0 (cells : List (Slot 8)) (s : State) : (s.setTxbuf cells).resF0 = s.resF0 := rfl
@[simp] theorem State.setTxbuf_resF1 (cells : List (Slot 8)) (s : State) : (s.setTxbuf cells).resF1 = s.resF1 := rfl
@[simp] theorem State.setTxbuf_resF2 (cells : List (Slot 8)) (s : State) : (s.setTxbuf cells).resF2 = s.resF2 := rfl
@[simp] theorem State.setTxbuf_devAddr (cells : List (Slot 8)) (s : State) : (s.setTxbuf cells).devAddr = s.devAddr := rfl
@[simp] theorem State.setTxbuf_txbuf (cells : List (Slot 8)) (s : State) : (s.setTxbuf cells).txbuf = cells := rfl
@[simp] theorem State.setTxbuf_rxbuf (cells : List (Slot 8)) (s : State) : (s.setTxbuf cells).rxbuf = s.rxbuf := rfl
@[simp] theorem State.setTxbuf_settleOwed (cells : List (Slot 8)) (s : State) : (s.setTxbuf cells).settleOwed = s.settleOwed := rfl
@[simp] theorem State.setTxbuf_modelFaults (cells : List (Slot 8)) (s : State) : (s.setTxbuf cells).modelFaults = s.modelFaults := rfl
@[simp] theorem State.setTxbuf_history (cells : List (Slot 8)) (s : State) : (s.setTxbuf cells).history = s.history := rfl
@[simp] theorem State.setTxbuf_device (cells : List (Slot 8)) (s : State) : (s.setTxbuf cells).device = s.device := rfl
@[simp] theorem State.setTxbuf_bus (cells : List (Slot 8)) (s : State) : (s.setTxbuf cells).bus = s.bus := rfl
@[simp] theorem State.setTxbuf_agenda (cells : List (Slot 8)) (s : State) : (s.setTxbuf cells).agenda = s.agenda := rfl
@[simp] theorem State.setTxbuf_replies (cells : List (Slot 8)) (s : State) : (s.setTxbuf cells).replies = s.replies := rfl
@[simp] theorem State.setTxbuf_txns (cells : List (Slot 8)) (s : State) : (s.setTxbuf cells).txns = s.txns := rfl
@[simp] theorem State.setTxbuf_draws (cells : List (Slot 8)) (s : State) : (s.setTxbuf cells).draws = s.draws := rfl

/-! ### setRxbuf -/

@[simp] theorem State.setRxbuf_cfg (cells : List (Slot 8)) (s : State) : (s.setRxbuf cells).cfg = s.cfg := rfl
@[simp] theorem State.setRxbuf_cmd (cells : List (Slot 8)) (s : State) : (s.setRxbuf cells).cmd = s.cmd := rfl
@[simp] theorem State.setRxbuf_status (cells : List (Slot 8)) (s : State) : (s.setRxbuf cells).status = s.status := rfl
@[simp] theorem State.setRxbuf_resNum (cells : List (Slot 8)) (s : State) : (s.setRxbuf cells).resNum = s.resNum := rfl
@[simp] theorem State.setRxbuf_resDen (cells : List (Slot 8)) (s : State) : (s.setRxbuf cells).resDen = s.resDen := rfl
@[simp] theorem State.setRxbuf_resChr (cells : List (Slot 8)) (s : State) : (s.setRxbuf cells).resChr = s.resChr := rfl
@[simp] theorem State.setRxbuf_resF0 (cells : List (Slot 8)) (s : State) : (s.setRxbuf cells).resF0 = s.resF0 := rfl
@[simp] theorem State.setRxbuf_resF1 (cells : List (Slot 8)) (s : State) : (s.setRxbuf cells).resF1 = s.resF1 := rfl
@[simp] theorem State.setRxbuf_resF2 (cells : List (Slot 8)) (s : State) : (s.setRxbuf cells).resF2 = s.resF2 := rfl
@[simp] theorem State.setRxbuf_devAddr (cells : List (Slot 8)) (s : State) : (s.setRxbuf cells).devAddr = s.devAddr := rfl
@[simp] theorem State.setRxbuf_txbuf (cells : List (Slot 8)) (s : State) : (s.setRxbuf cells).txbuf = s.txbuf := rfl
@[simp] theorem State.setRxbuf_rxbuf (cells : List (Slot 8)) (s : State) : (s.setRxbuf cells).rxbuf = cells := rfl
@[simp] theorem State.setRxbuf_settleOwed (cells : List (Slot 8)) (s : State) : (s.setRxbuf cells).settleOwed = s.settleOwed := rfl
@[simp] theorem State.setRxbuf_modelFaults (cells : List (Slot 8)) (s : State) : (s.setRxbuf cells).modelFaults = s.modelFaults := rfl
@[simp] theorem State.setRxbuf_history (cells : List (Slot 8)) (s : State) : (s.setRxbuf cells).history = s.history := rfl
@[simp] theorem State.setRxbuf_device (cells : List (Slot 8)) (s : State) : (s.setRxbuf cells).device = s.device := rfl
@[simp] theorem State.setRxbuf_bus (cells : List (Slot 8)) (s : State) : (s.setRxbuf cells).bus = s.bus := rfl
@[simp] theorem State.setRxbuf_agenda (cells : List (Slot 8)) (s : State) : (s.setRxbuf cells).agenda = s.agenda := rfl
@[simp] theorem State.setRxbuf_replies (cells : List (Slot 8)) (s : State) : (s.setRxbuf cells).replies = s.replies := rfl
@[simp] theorem State.setRxbuf_txns (cells : List (Slot 8)) (s : State) : (s.setRxbuf cells).txns = s.txns := rfl
@[simp] theorem State.setRxbuf_draws (cells : List (Slot 8)) (s : State) : (s.setRxbuf cells).draws = s.draws := rfl

/-! ### setSettleOwed -/

@[simp] theorem State.setSettleOwed_cfg (owed : Bool) (s : State) : (s.setSettleOwed owed).cfg = s.cfg := rfl
@[simp] theorem State.setSettleOwed_cmd (owed : Bool) (s : State) : (s.setSettleOwed owed).cmd = s.cmd := rfl
@[simp] theorem State.setSettleOwed_status (owed : Bool) (s : State) : (s.setSettleOwed owed).status = s.status := rfl
@[simp] theorem State.setSettleOwed_resNum (owed : Bool) (s : State) : (s.setSettleOwed owed).resNum = s.resNum := rfl
@[simp] theorem State.setSettleOwed_resDen (owed : Bool) (s : State) : (s.setSettleOwed owed).resDen = s.resDen := rfl
@[simp] theorem State.setSettleOwed_resChr (owed : Bool) (s : State) : (s.setSettleOwed owed).resChr = s.resChr := rfl
@[simp] theorem State.setSettleOwed_resF0 (owed : Bool) (s : State) : (s.setSettleOwed owed).resF0 = s.resF0 := rfl
@[simp] theorem State.setSettleOwed_resF1 (owed : Bool) (s : State) : (s.setSettleOwed owed).resF1 = s.resF1 := rfl
@[simp] theorem State.setSettleOwed_resF2 (owed : Bool) (s : State) : (s.setSettleOwed owed).resF2 = s.resF2 := rfl
@[simp] theorem State.setSettleOwed_devAddr (owed : Bool) (s : State) : (s.setSettleOwed owed).devAddr = s.devAddr := rfl
@[simp] theorem State.setSettleOwed_txbuf (owed : Bool) (s : State) : (s.setSettleOwed owed).txbuf = s.txbuf := rfl
@[simp] theorem State.setSettleOwed_rxbuf (owed : Bool) (s : State) : (s.setSettleOwed owed).rxbuf = s.rxbuf := rfl
@[simp] theorem State.setSettleOwed_settleOwed (owed : Bool) (s : State) : (s.setSettleOwed owed).settleOwed = owed := rfl
@[simp] theorem State.setSettleOwed_modelFaults (owed : Bool) (s : State) : (s.setSettleOwed owed).modelFaults = s.modelFaults := rfl
@[simp] theorem State.setSettleOwed_history (owed : Bool) (s : State) : (s.setSettleOwed owed).history = s.history := rfl
@[simp] theorem State.setSettleOwed_device (owed : Bool) (s : State) : (s.setSettleOwed owed).device = s.device := rfl
@[simp] theorem State.setSettleOwed_bus (owed : Bool) (s : State) : (s.setSettleOwed owed).bus = s.bus := rfl
@[simp] theorem State.setSettleOwed_agenda (owed : Bool) (s : State) : (s.setSettleOwed owed).agenda = s.agenda := rfl
@[simp] theorem State.setSettleOwed_replies (owed : Bool) (s : State) : (s.setSettleOwed owed).replies = s.replies := rfl
@[simp] theorem State.setSettleOwed_txns (owed : Bool) (s : State) : (s.setSettleOwed owed).txns = s.txns := rfl
@[simp] theorem State.setSettleOwed_draws (owed : Bool) (s : State) : (s.setSettleOwed owed).draws = s.draws := rfl

/-! ### setModelFaults -/

@[simp] theorem State.setModelFaults_cfg (f : ModelFaults) (s : State) : (s.setModelFaults f).cfg = s.cfg := rfl
@[simp] theorem State.setModelFaults_cmd (f : ModelFaults) (s : State) : (s.setModelFaults f).cmd = s.cmd := rfl
@[simp] theorem State.setModelFaults_status (f : ModelFaults) (s : State) : (s.setModelFaults f).status = s.status := rfl
@[simp] theorem State.setModelFaults_resNum (f : ModelFaults) (s : State) : (s.setModelFaults f).resNum = s.resNum := rfl
@[simp] theorem State.setModelFaults_resDen (f : ModelFaults) (s : State) : (s.setModelFaults f).resDen = s.resDen := rfl
@[simp] theorem State.setModelFaults_resChr (f : ModelFaults) (s : State) : (s.setModelFaults f).resChr = s.resChr := rfl
@[simp] theorem State.setModelFaults_resF0 (f : ModelFaults) (s : State) : (s.setModelFaults f).resF0 = s.resF0 := rfl
@[simp] theorem State.setModelFaults_resF1 (f : ModelFaults) (s : State) : (s.setModelFaults f).resF1 = s.resF1 := rfl
@[simp] theorem State.setModelFaults_resF2 (f : ModelFaults) (s : State) : (s.setModelFaults f).resF2 = s.resF2 := rfl
@[simp] theorem State.setModelFaults_devAddr (f : ModelFaults) (s : State) : (s.setModelFaults f).devAddr = s.devAddr := rfl
@[simp] theorem State.setModelFaults_txbuf (f : ModelFaults) (s : State) : (s.setModelFaults f).txbuf = s.txbuf := rfl
@[simp] theorem State.setModelFaults_rxbuf (f : ModelFaults) (s : State) : (s.setModelFaults f).rxbuf = s.rxbuf := rfl
@[simp] theorem State.setModelFaults_settleOwed (f : ModelFaults) (s : State) : (s.setModelFaults f).settleOwed = s.settleOwed := rfl
@[simp] theorem State.setModelFaults_modelFaults (f : ModelFaults) (s : State) : (s.setModelFaults f).modelFaults = f := rfl
@[simp] theorem State.setModelFaults_history (f : ModelFaults) (s : State) : (s.setModelFaults f).history = s.history := rfl
@[simp] theorem State.setModelFaults_device (f : ModelFaults) (s : State) : (s.setModelFaults f).device = s.device := rfl
@[simp] theorem State.setModelFaults_bus (f : ModelFaults) (s : State) : (s.setModelFaults f).bus = s.bus := rfl
@[simp] theorem State.setModelFaults_agenda (f : ModelFaults) (s : State) : (s.setModelFaults f).agenda = s.agenda := rfl
@[simp] theorem State.setModelFaults_replies (f : ModelFaults) (s : State) : (s.setModelFaults f).replies = s.replies := rfl
@[simp] theorem State.setModelFaults_txns (f : ModelFaults) (s : State) : (s.setModelFaults f).txns = s.txns := rfl
@[simp] theorem State.setModelFaults_draws (f : ModelFaults) (s : State) : (s.setModelFaults f).draws = s.draws := rfl

/-! ### log -/

@[simp] theorem State.log_cfg (e : Event) (s : State) : (State.log e s).cfg = s.cfg := rfl
@[simp] theorem State.log_cmd (e : Event) (s : State) : (State.log e s).cmd = s.cmd := rfl
@[simp] theorem State.log_status (e : Event) (s : State) : (State.log e s).status = s.status := rfl
@[simp] theorem State.log_resNum (e : Event) (s : State) : (State.log e s).resNum = s.resNum := rfl
@[simp] theorem State.log_resDen (e : Event) (s : State) : (State.log e s).resDen = s.resDen := rfl
@[simp] theorem State.log_resChr (e : Event) (s : State) : (State.log e s).resChr = s.resChr := rfl
@[simp] theorem State.log_resF0 (e : Event) (s : State) : (State.log e s).resF0 = s.resF0 := rfl
@[simp] theorem State.log_resF1 (e : Event) (s : State) : (State.log e s).resF1 = s.resF1 := rfl
@[simp] theorem State.log_resF2 (e : Event) (s : State) : (State.log e s).resF2 = s.resF2 := rfl
@[simp] theorem State.log_devAddr (e : Event) (s : State) : (State.log e s).devAddr = s.devAddr := rfl
@[simp] theorem State.log_txbuf (e : Event) (s : State) : (State.log e s).txbuf = s.txbuf := rfl
@[simp] theorem State.log_rxbuf (e : Event) (s : State) : (State.log e s).rxbuf = s.rxbuf := rfl
@[simp] theorem State.log_settleOwed (e : Event) (s : State) : (State.log e s).settleOwed = s.settleOwed := rfl
@[simp] theorem State.log_modelFaults (e : Event) (s : State) : (State.log e s).modelFaults = s.modelFaults := rfl
@[simp] theorem State.log_history (e : Event) (s : State) : (State.log e s).history = s.history ++ [e] := rfl
@[simp] theorem State.log_device (e : Event) (s : State) : (State.log e s).device = s.device := rfl
@[simp] theorem State.log_bus (e : Event) (s : State) : (State.log e s).bus = s.bus := rfl
@[simp] theorem State.log_agenda (e : Event) (s : State) : (State.log e s).agenda = s.agenda := rfl
@[simp] theorem State.log_replies (e : Event) (s : State) : (State.log e s).replies = s.replies := rfl
@[simp] theorem State.log_txns (e : Event) (s : State) : (State.log e s).txns = s.txns := rfl
@[simp] theorem State.log_draws (e : Event) (s : State) : (State.log e s).draws = s.draws := rfl

/-! ### setDevice -/

@[simp] theorem State.setDevice_cfg (m : Memory) (s : State) : (s.setDevice m).cfg = s.cfg := rfl
@[simp] theorem State.setDevice_cmd (m : Memory) (s : State) : (s.setDevice m).cmd = s.cmd := rfl
@[simp] theorem State.setDevice_status (m : Memory) (s : State) : (s.setDevice m).status = s.status := rfl
@[simp] theorem State.setDevice_resNum (m : Memory) (s : State) : (s.setDevice m).resNum = s.resNum := rfl
@[simp] theorem State.setDevice_resDen (m : Memory) (s : State) : (s.setDevice m).resDen = s.resDen := rfl
@[simp] theorem State.setDevice_resChr (m : Memory) (s : State) : (s.setDevice m).resChr = s.resChr := rfl
@[simp] theorem State.setDevice_resF0 (m : Memory) (s : State) : (s.setDevice m).resF0 = s.resF0 := rfl
@[simp] theorem State.setDevice_resF1 (m : Memory) (s : State) : (s.setDevice m).resF1 = s.resF1 := rfl
@[simp] theorem State.setDevice_resF2 (m : Memory) (s : State) : (s.setDevice m).resF2 = s.resF2 := rfl
@[simp] theorem State.setDevice_devAddr (m : Memory) (s : State) : (s.setDevice m).devAddr = s.devAddr := rfl
@[simp] theorem State.setDevice_txbuf (m : Memory) (s : State) : (s.setDevice m).txbuf = s.txbuf := rfl
@[simp] theorem State.setDevice_rxbuf (m : Memory) (s : State) : (s.setDevice m).rxbuf = s.rxbuf := rfl
@[simp] theorem State.setDevice_settleOwed (m : Memory) (s : State) : (s.setDevice m).settleOwed = s.settleOwed := rfl
@[simp] theorem State.setDevice_modelFaults (m : Memory) (s : State) : (s.setDevice m).modelFaults = s.modelFaults := rfl
@[simp] theorem State.setDevice_history (m : Memory) (s : State) : (s.setDevice m).history = s.history := rfl
@[simp] theorem State.setDevice_device (m : Memory) (s : State) : (s.setDevice m).device = m := rfl
@[simp] theorem State.setDevice_bus (m : Memory) (s : State) : (s.setDevice m).bus = s.bus := rfl
@[simp] theorem State.setDevice_agenda (m : Memory) (s : State) : (s.setDevice m).agenda = s.agenda := rfl
@[simp] theorem State.setDevice_replies (m : Memory) (s : State) : (s.setDevice m).replies = s.replies := rfl
@[simp] theorem State.setDevice_txns (m : Memory) (s : State) : (s.setDevice m).txns = s.txns := rfl
@[simp] theorem State.setDevice_draws (m : Memory) (s : State) : (s.setDevice m).draws = s.draws := rfl

/-! ### setCmd -/

@[simp] theorem State.setCmd_cfg (w : Word) (s : State) : (s.setCmd w).cfg = s.cfg := rfl
@[simp] theorem State.setCmd_cmd (w : Word) (s : State) : (s.setCmd w).cmd = w := rfl
@[simp] theorem State.setCmd_status (w : Word) (s : State) : (s.setCmd w).status = s.status := rfl
@[simp] theorem State.setCmd_resNum (w : Word) (s : State) : (s.setCmd w).resNum = s.resNum := rfl
@[simp] theorem State.setCmd_resDen (w : Word) (s : State) : (s.setCmd w).resDen = s.resDen := rfl
@[simp] theorem State.setCmd_resChr (w : Word) (s : State) : (s.setCmd w).resChr = s.resChr := rfl
@[simp] theorem State.setCmd_resF0 (w : Word) (s : State) : (s.setCmd w).resF0 = s.resF0 := rfl
@[simp] theorem State.setCmd_resF1 (w : Word) (s : State) : (s.setCmd w).resF1 = s.resF1 := rfl
@[simp] theorem State.setCmd_resF2 (w : Word) (s : State) : (s.setCmd w).resF2 = s.resF2 := rfl
@[simp] theorem State.setCmd_devAddr (w : Word) (s : State) : (s.setCmd w).devAddr = s.devAddr := rfl
@[simp] theorem State.setCmd_txbuf (w : Word) (s : State) : (s.setCmd w).txbuf = s.txbuf := rfl
@[simp] theorem State.setCmd_rxbuf (w : Word) (s : State) : (s.setCmd w).rxbuf = s.rxbuf := rfl
@[simp] theorem State.setCmd_settleOwed (w : Word) (s : State) : (s.setCmd w).settleOwed = s.settleOwed := rfl
@[simp] theorem State.setCmd_modelFaults (w : Word) (s : State) : (s.setCmd w).modelFaults = s.modelFaults := rfl
@[simp] theorem State.setCmd_history (w : Word) (s : State) : (s.setCmd w).history = s.history := rfl
@[simp] theorem State.setCmd_device (w : Word) (s : State) : (s.setCmd w).device = s.device := rfl
@[simp] theorem State.setCmd_bus (w : Word) (s : State) : (s.setCmd w).bus = s.bus := rfl
@[simp] theorem State.setCmd_agenda (w : Word) (s : State) : (s.setCmd w).agenda = s.agenda := rfl
@[simp] theorem State.setCmd_replies (w : Word) (s : State) : (s.setCmd w).replies = s.replies := rfl
@[simp] theorem State.setCmd_txns (w : Word) (s : State) : (s.setCmd w).txns = s.txns := rfl
@[simp] theorem State.setCmd_draws (w : Word) (s : State) : (s.setCmd w).draws = s.draws := rfl

/-! ### setAgenda -/

@[simp] theorem State.setAgenda_cfg (a : List Turn) (s : State) : (s.setAgenda a).cfg = s.cfg := rfl
@[simp] theorem State.setAgenda_cmd (a : List Turn) (s : State) : (s.setAgenda a).cmd = s.cmd := rfl
@[simp] theorem State.setAgenda_status (a : List Turn) (s : State) : (s.setAgenda a).status = s.status := rfl
@[simp] theorem State.setAgenda_resNum (a : List Turn) (s : State) : (s.setAgenda a).resNum = s.resNum := rfl
@[simp] theorem State.setAgenda_resDen (a : List Turn) (s : State) : (s.setAgenda a).resDen = s.resDen := rfl
@[simp] theorem State.setAgenda_resChr (a : List Turn) (s : State) : (s.setAgenda a).resChr = s.resChr := rfl
@[simp] theorem State.setAgenda_resF0 (a : List Turn) (s : State) : (s.setAgenda a).resF0 = s.resF0 := rfl
@[simp] theorem State.setAgenda_resF1 (a : List Turn) (s : State) : (s.setAgenda a).resF1 = s.resF1 := rfl
@[simp] theorem State.setAgenda_resF2 (a : List Turn) (s : State) : (s.setAgenda a).resF2 = s.resF2 := rfl
@[simp] theorem State.setAgenda_devAddr (a : List Turn) (s : State) : (s.setAgenda a).devAddr = s.devAddr := rfl
@[simp] theorem State.setAgenda_txbuf (a : List Turn) (s : State) : (s.setAgenda a).txbuf = s.txbuf := rfl
@[simp] theorem State.setAgenda_rxbuf (a : List Turn) (s : State) : (s.setAgenda a).rxbuf = s.rxbuf := rfl
@[simp] theorem State.setAgenda_settleOwed (a : List Turn) (s : State) : (s.setAgenda a).settleOwed = s.settleOwed := rfl
@[simp] theorem State.setAgenda_modelFaults (a : List Turn) (s : State) : (s.setAgenda a).modelFaults = s.modelFaults := rfl
@[simp] theorem State.setAgenda_history (a : List Turn) (s : State) : (s.setAgenda a).history = s.history := rfl
@[simp] theorem State.setAgenda_device (a : List Turn) (s : State) : (s.setAgenda a).device = s.device := rfl
@[simp] theorem State.setAgenda_bus (a : List Turn) (s : State) : (s.setAgenda a).bus = s.bus := rfl
@[simp] theorem State.setAgenda_agenda (a : List Turn) (s : State) : (s.setAgenda a).agenda = a := rfl
@[simp] theorem State.setAgenda_replies (a : List Turn) (s : State) : (s.setAgenda a).replies = s.replies := rfl
@[simp] theorem State.setAgenda_txns (a : List Turn) (s : State) : (s.setAgenda a).txns = s.txns := rfl
@[simp] theorem State.setAgenda_draws (a : List Turn) (s : State) : (s.setAgenda a).draws = s.draws := rfl

/-! ### reply -/

@[simp] theorem State.reply_cfg (w : Word) (s : State) : (s.reply w).cfg = s.cfg := rfl
@[simp] theorem State.reply_cmd (w : Word) (s : State) : (s.reply w).cmd = s.cmd := rfl
@[simp] theorem State.reply_status (w : Word) (s : State) : (s.reply w).status = s.status := rfl
@[simp] theorem State.reply_resNum (w : Word) (s : State) : (s.reply w).resNum = s.resNum := rfl
@[simp] theorem State.reply_resDen (w : Word) (s : State) : (s.reply w).resDen = s.resDen := rfl
@[simp] theorem State.reply_resChr (w : Word) (s : State) : (s.reply w).resChr = s.resChr := rfl
@[simp] theorem State.reply_resF0 (w : Word) (s : State) : (s.reply w).resF0 = s.resF0 := rfl
@[simp] theorem State.reply_resF1 (w : Word) (s : State) : (s.reply w).resF1 = s.resF1 := rfl
@[simp] theorem State.reply_resF2 (w : Word) (s : State) : (s.reply w).resF2 = s.resF2 := rfl
@[simp] theorem State.reply_devAddr (w : Word) (s : State) : (s.reply w).devAddr = s.devAddr := rfl
@[simp] theorem State.reply_txbuf (w : Word) (s : State) : (s.reply w).txbuf = s.txbuf := rfl
@[simp] theorem State.reply_rxbuf (w : Word) (s : State) : (s.reply w).rxbuf = s.rxbuf := rfl
@[simp] theorem State.reply_settleOwed (w : Word) (s : State) : (s.reply w).settleOwed = s.settleOwed := rfl
@[simp] theorem State.reply_modelFaults (w : Word) (s : State) : (s.reply w).modelFaults = s.modelFaults := rfl
@[simp] theorem State.reply_history (w : Word) (s : State) : (s.reply w).history = s.history := rfl
@[simp] theorem State.reply_device (w : Word) (s : State) : (s.reply w).device = s.device := rfl
@[simp] theorem State.reply_bus (w : Word) (s : State) : (s.reply w).bus = s.bus := rfl
@[simp] theorem State.reply_agenda (w : Word) (s : State) : (s.reply w).agenda = s.agenda := rfl
@[simp] theorem State.reply_replies (w : Word) (s : State) : (s.reply w).replies = s.replies ++ [w] := rfl
@[simp] theorem State.reply_txns (w : Word) (s : State) : (s.reply w).txns = s.txns := rfl
@[simp] theorem State.reply_draws (w : Word) (s : State) : (s.reply w).draws = s.draws := rfl

/-! ### countTransaction -/

@[simp] theorem State.countTransaction_cfg (n : Nat) (s : State) : (s.countTransaction n).cfg = s.cfg := rfl
@[simp] theorem State.countTransaction_cmd (n : Nat) (s : State) : (s.countTransaction n).cmd = s.cmd := rfl
@[simp] theorem State.countTransaction_status (n : Nat) (s : State) : (s.countTransaction n).status = s.status := rfl
@[simp] theorem State.countTransaction_resNum (n : Nat) (s : State) : (s.countTransaction n).resNum = s.resNum := rfl
@[simp] theorem State.countTransaction_resDen (n : Nat) (s : State) : (s.countTransaction n).resDen = s.resDen := rfl
@[simp] theorem State.countTransaction_resChr (n : Nat) (s : State) : (s.countTransaction n).resChr = s.resChr := rfl
@[simp] theorem State.countTransaction_resF0 (n : Nat) (s : State) : (s.countTransaction n).resF0 = s.resF0 := rfl
@[simp] theorem State.countTransaction_resF1 (n : Nat) (s : State) : (s.countTransaction n).resF1 = s.resF1 := rfl
@[simp] theorem State.countTransaction_resF2 (n : Nat) (s : State) : (s.countTransaction n).resF2 = s.resF2 := rfl
@[simp] theorem State.countTransaction_devAddr (n : Nat) (s : State) : (s.countTransaction n).devAddr = s.devAddr := rfl
@[simp] theorem State.countTransaction_txbuf (n : Nat) (s : State) : (s.countTransaction n).txbuf = s.txbuf := rfl
@[simp] theorem State.countTransaction_rxbuf (n : Nat) (s : State) : (s.countTransaction n).rxbuf = s.rxbuf := rfl
@[simp] theorem State.countTransaction_settleOwed (n : Nat) (s : State) : (s.countTransaction n).settleOwed = s.settleOwed := rfl
@[simp] theorem State.countTransaction_modelFaults (n : Nat) (s : State) : (s.countTransaction n).modelFaults = s.modelFaults := rfl
@[simp] theorem State.countTransaction_history (n : Nat) (s : State) : (s.countTransaction n).history = s.history := rfl
@[simp] theorem State.countTransaction_device (n : Nat) (s : State) : (s.countTransaction n).device = s.device := rfl
@[simp] theorem State.countTransaction_bus (n : Nat) (s : State) : (s.countTransaction n).bus = if s.cfg.simDevice then s.bus else s.bus.tail := rfl
@[simp] theorem State.countTransaction_agenda (n : Nat) (s : State) : (s.countTransaction n).agenda = s.agenda := rfl
@[simp] theorem State.countTransaction_replies (n : Nat) (s : State) : (s.countTransaction n).replies = s.replies := rfl
@[simp] theorem State.countTransaction_txns (n : Nat) (s : State) : (s.countTransaction n).txns = s.txns + 1 := rfl
@[simp] theorem State.countTransaction_draws (n : Nat) (s : State) : (s.countTransaction n).draws = s.draws + n := rfl

/-! ### Status -/

@[simp] theorem Status.cleared_ready (st : Status) : st.cleared.ready = st.ready := rfl

@[simp] theorem Status.cleared_busy (st : Status) : st.cleared.busy = st.busy := rfl

@[simp] theorem Status.faulted_ready (c : Cause) (st : Status) : (st.faulted c).ready = st.ready := rfl

@[simp] theorem Status.failed_ready (st : Status) : st.failed.ready = st.ready := rfl

@[simp] theorem Status.substituted_ready (st : Status) : st.substituted.ready = st.ready := rfl

@[simp] theorem Status.refusedMode_ready (st : Status) : st.refusedMode.ready = st.ready := rfl

@[simp] theorem Status.completed_ready (st : Status) : st.completed.ready = st.ready := rfl

@[simp] theorem Status.completed_busy (st : Status) : st.completed.busy = false := rfl

@[simp] theorem Status.completed_completed (st : Status) : st.completed.completed = st.completed := rfl

@[simp] theorem Status.issued_completed (st : Status) : st.issued.completed = st.completed := rfl

@[simp] theorem Slot.of_valid {w : Nat} (v : BitVec w) : (Slot.of v).valid = true := rfl

@[simp] theorem Slot.of_bits {w : Nat} (v : BitVec w) : (Slot.of v).bits = v := rfl

@[simp] theorem Slot.invalid_valid {w : Nat} (v : BitVec w) : (Slot.invalid v).valid = false := rfl

@[simp] theorem Slot.unwritten_valid {w : Nat} : (Slot.unwritten : Slot w).valid = false := rfl

/-! ### knownNumber and knownLetter -/

@[simp] theorem State.knownNumber_cfg (known : Bool) (s : State) : (s.knownNumber known).cfg = s.cfg := rfl
@[simp] theorem State.knownNumber_cmd (known : Bool) (s : State) : (s.knownNumber known).cmd = s.cmd := rfl
@[simp] theorem State.knownNumber_status (known : Bool) (s : State) : (s.knownNumber known).status = s.status := rfl
@[simp] theorem State.knownNumber_resNum (known : Bool) (s : State) : (s.knownNumber known).resNum = s.resNum.known known := rfl
@[simp] theorem State.knownNumber_resDen (known : Bool) (s : State) : (s.knownNumber known).resDen = s.resDen := rfl
@[simp] theorem State.knownNumber_resChr (known : Bool) (s : State) : (s.knownNumber known).resChr = s.resChr := rfl
@[simp] theorem State.knownNumber_resF0 (known : Bool) (s : State) : (s.knownNumber known).resF0 = s.resF0 := rfl
@[simp] theorem State.knownNumber_resF1 (known : Bool) (s : State) : (s.knownNumber known).resF1 = s.resF1 := rfl
@[simp] theorem State.knownNumber_resF2 (known : Bool) (s : State) : (s.knownNumber known).resF2 = s.resF2 := rfl
@[simp] theorem State.knownNumber_devAddr (known : Bool) (s : State) : (s.knownNumber known).devAddr = s.devAddr := rfl
@[simp] theorem State.knownNumber_txbuf (known : Bool) (s : State) : (s.knownNumber known).txbuf = s.txbuf := rfl
@[simp] theorem State.knownNumber_rxbuf (known : Bool) (s : State) : (s.knownNumber known).rxbuf = s.rxbuf := rfl
@[simp] theorem State.knownNumber_settleOwed (known : Bool) (s : State) : (s.knownNumber known).settleOwed = s.settleOwed := rfl
@[simp] theorem State.knownNumber_modelFaults (known : Bool) (s : State) : (s.knownNumber known).modelFaults = s.modelFaults := rfl
@[simp] theorem State.knownNumber_history (known : Bool) (s : State) : (s.knownNumber known).history = s.history := rfl
@[simp] theorem State.knownNumber_device (known : Bool) (s : State) : (s.knownNumber known).device = s.device := rfl
@[simp] theorem State.knownNumber_bus (known : Bool) (s : State) : (s.knownNumber known).bus = s.bus := rfl
@[simp] theorem State.knownNumber_agenda (known : Bool) (s : State) : (s.knownNumber known).agenda = s.agenda := rfl
@[simp] theorem State.knownNumber_replies (known : Bool) (s : State) : (s.knownNumber known).replies = s.replies := rfl
@[simp] theorem State.knownNumber_txns (known : Bool) (s : State) : (s.knownNumber known).txns = s.txns := rfl
@[simp] theorem State.knownNumber_draws (known : Bool) (s : State) : (s.knownNumber known).draws = s.draws := rfl

@[simp] theorem State.knownLetter_cfg (known : Bool) (s : State) : (s.knownLetter known).cfg = s.cfg := rfl
@[simp] theorem State.knownLetter_cmd (known : Bool) (s : State) : (s.knownLetter known).cmd = s.cmd := rfl
@[simp] theorem State.knownLetter_status (known : Bool) (s : State) : (s.knownLetter known).status = s.status := rfl
@[simp] theorem State.knownLetter_resNum (known : Bool) (s : State) : (s.knownLetter known).resNum = s.resNum := rfl
@[simp] theorem State.knownLetter_resDen (known : Bool) (s : State) : (s.knownLetter known).resDen = s.resDen := rfl
@[simp] theorem State.knownLetter_resChr (known : Bool) (s : State) : (s.knownLetter known).resChr = s.resChr.known known := rfl
@[simp] theorem State.knownLetter_resF0 (known : Bool) (s : State) : (s.knownLetter known).resF0 = s.resF0 := rfl
@[simp] theorem State.knownLetter_resF1 (known : Bool) (s : State) : (s.knownLetter known).resF1 = s.resF1 := rfl
@[simp] theorem State.knownLetter_resF2 (known : Bool) (s : State) : (s.knownLetter known).resF2 = s.resF2 := rfl
@[simp] theorem State.knownLetter_devAddr (known : Bool) (s : State) : (s.knownLetter known).devAddr = s.devAddr := rfl
@[simp] theorem State.knownLetter_txbuf (known : Bool) (s : State) : (s.knownLetter known).txbuf = s.txbuf := rfl
@[simp] theorem State.knownLetter_rxbuf (known : Bool) (s : State) : (s.knownLetter known).rxbuf = s.rxbuf := rfl
@[simp] theorem State.knownLetter_settleOwed (known : Bool) (s : State) : (s.knownLetter known).settleOwed = s.settleOwed := rfl
@[simp] theorem State.knownLetter_modelFaults (known : Bool) (s : State) : (s.knownLetter known).modelFaults = s.modelFaults := rfl
@[simp] theorem State.knownLetter_history (known : Bool) (s : State) : (s.knownLetter known).history = s.history := rfl
@[simp] theorem State.knownLetter_device (known : Bool) (s : State) : (s.knownLetter known).device = s.device := rfl
@[simp] theorem State.knownLetter_bus (known : Bool) (s : State) : (s.knownLetter known).bus = s.bus := rfl
@[simp] theorem State.knownLetter_agenda (known : Bool) (s : State) : (s.knownLetter known).agenda = s.agenda := rfl
@[simp] theorem State.knownLetter_replies (known : Bool) (s : State) : (s.knownLetter known).replies = s.replies := rfl
@[simp] theorem State.knownLetter_txns (known : Bool) (s : State) : (s.knownLetter known).txns = s.txns := rfl
@[simp] theorem State.knownLetter_draws (known : Bool) (s : State) : (s.knownLetter known).draws = s.draws := rfl

/-! ### requireValue and startTransaction -/

@[simp] theorem State.requireValue_cfg (valid : Bool) (s : State) : (s.requireValue valid).cfg = s.cfg := rfl
@[simp] theorem State.requireValue_cmd (valid : Bool) (s : State) : (s.requireValue valid).cmd = s.cmd := rfl
@[simp] theorem State.requireValue_status (valid : Bool) (s : State) : (s.requireValue valid).status = s.status := rfl
@[simp] theorem State.requireValue_resNum (valid : Bool) (s : State) : (s.requireValue valid).resNum = s.resNum := rfl
@[simp] theorem State.requireValue_resDen (valid : Bool) (s : State) : (s.requireValue valid).resDen = s.resDen := rfl
@[simp] theorem State.requireValue_resChr (valid : Bool) (s : State) : (s.requireValue valid).resChr = s.resChr := rfl
@[simp] theorem State.requireValue_resF0 (valid : Bool) (s : State) : (s.requireValue valid).resF0 = s.resF0 := rfl
@[simp] theorem State.requireValue_resF1 (valid : Bool) (s : State) : (s.requireValue valid).resF1 = s.resF1 := rfl
@[simp] theorem State.requireValue_resF2 (valid : Bool) (s : State) : (s.requireValue valid).resF2 = s.resF2 := rfl
@[simp] theorem State.requireValue_devAddr (valid : Bool) (s : State) : (s.requireValue valid).devAddr = s.devAddr := rfl
@[simp] theorem State.requireValue_txbuf (valid : Bool) (s : State) : (s.requireValue valid).txbuf = s.txbuf := rfl
@[simp] theorem State.requireValue_rxbuf (valid : Bool) (s : State) : (s.requireValue valid).rxbuf = s.rxbuf := rfl
@[simp] theorem State.requireValue_settleOwed (valid : Bool) (s : State) : (s.requireValue valid).settleOwed = s.settleOwed := rfl
@[simp] theorem State.requireValue_modelFaults (valid : Bool) (s : State) : (s.requireValue valid).modelFaults = s.modelFaults.missing (!valid) := rfl
@[simp] theorem State.requireValue_history (valid : Bool) (s : State) : (s.requireValue valid).history = s.history := rfl
@[simp] theorem State.requireValue_device (valid : Bool) (s : State) : (s.requireValue valid).device = s.device := rfl
@[simp] theorem State.requireValue_bus (valid : Bool) (s : State) : (s.requireValue valid).bus = s.bus := rfl
@[simp] theorem State.requireValue_agenda (valid : Bool) (s : State) : (s.requireValue valid).agenda = s.agenda := rfl
@[simp] theorem State.requireValue_replies (valid : Bool) (s : State) : (s.requireValue valid).replies = s.replies := rfl
@[simp] theorem State.requireValue_txns (valid : Bool) (s : State) : (s.requireValue valid).txns = s.txns := rfl
@[simp] theorem State.requireValue_draws (valid : Bool) (s : State) : (s.requireValue valid).draws = s.draws := rfl

@[simp] theorem State.startTransaction_cfg (s : State) : s.startTransaction.cfg = s.cfg := rfl
@[simp] theorem State.startTransaction_cmd (s : State) : s.startTransaction.cmd = s.cmd := rfl
@[simp] theorem State.startTransaction_status (s : State) : s.startTransaction.status = s.status := rfl
@[simp] theorem State.startTransaction_resNum (s : State) : s.startTransaction.resNum = s.resNum := rfl
@[simp] theorem State.startTransaction_resDen (s : State) : s.startTransaction.resDen = s.resDen := rfl
@[simp] theorem State.startTransaction_resChr (s : State) : s.startTransaction.resChr = s.resChr := rfl
@[simp] theorem State.startTransaction_resF0 (s : State) : s.startTransaction.resF0 = s.resF0 := rfl
@[simp] theorem State.startTransaction_resF1 (s : State) : s.startTransaction.resF1 = s.resF1 := rfl
@[simp] theorem State.startTransaction_resF2 (s : State) : s.startTransaction.resF2 = s.resF2 := rfl
@[simp] theorem State.startTransaction_devAddr (s : State) : s.startTransaction.devAddr = s.devAddr := rfl
@[simp] theorem State.startTransaction_txbuf (s : State) : s.startTransaction.txbuf = s.txbuf := rfl
@[simp] theorem State.startTransaction_rxbuf (s : State) : s.startTransaction.rxbuf = s.rxbuf := rfl
@[simp] theorem State.startTransaction_settleOwed (s : State) : s.startTransaction.settleOwed = s.settleOwed := rfl
@[simp] theorem State.startTransaction_modelFaults (s : State) : s.startTransaction.modelFaults = s.modelFaults.settling s.settleOwed := rfl
@[simp] theorem State.startTransaction_history (s : State) : s.startTransaction.history = s.history := rfl
@[simp] theorem State.startTransaction_device (s : State) : s.startTransaction.device = s.device := rfl
@[simp] theorem State.startTransaction_bus (s : State) : s.startTransaction.bus = s.bus := rfl
@[simp] theorem State.startTransaction_agenda (s : State) : s.startTransaction.agenda = s.agenda := rfl
@[simp] theorem State.startTransaction_replies (s : State) : s.startTransaction.replies = s.replies := rfl
@[simp] theorem State.startTransaction_txns (s : State) : s.startTransaction.txns = s.txns := rfl
@[simp] theorem State.startTransaction_draws (s : State) : s.startTransaction.draws = s.draws := rfl

end Sys2Proof.Machine
end

