-- ==== Sys2Proof/Laws/Ops.lean ====
section
/-! SUPPORT. What each shared operation can do, said once: later proofs cite these instead of unfolding it. -/

namespace Sys2Proof.Machine

@[simp] theorem prologue_eq (s : State) : prologue s = s.setStatus s.status.cleared := rfl

@[simp] theorem raiseFault_eq (c : Cause) (s : State) : raiseFault c s = s.setStatus (s.status.faulted c) := rfl

@[simp] theorem epilogue_eq (s : State) : epilogue s = s.setStatus s.status.completed := rfl

/-! ### The bus -/

/-- The answer to a read does not depend on STATUS. -/
@[simp] theorem readAnswer_setStatus (reg : Byte) (n : Nat) (st : Status) (s : State) :
    (s.setStatus st).readAnswer reg n = s.readAnswer reg n := rfl

@[simp] theorem writeAnswer_setStatus (st : Status) (s : State) : (s.setStatus st).writeAnswer = s.writeAnswer := rfl

/-- An `Ok` read has exactly the bytes asked for (R70). -/
theorem readAnswer_length {reg : Byte} {n : Nat} {s : State} {bytes : List Byte}
    (h : s.readAnswer reg n = some (.ok bytes)) : bytes.length = n := by
  unfold State.readAnswer at h
  split at h
  · by_cases hf : s.scheduledFailure = true
    · simp [hf] at h
    · simp only [hf] at h
      have : s.device.readBytes reg.toNat n = bytes := by simpa using h
      rw [← this, Memory.length_readBytes]
  · split at h
    · simp at h
    · simp at h
    · rename_i given _
      have : exactly s.draws n given = bytes := by simpa using h
      rw [← this, length_exactly]

/-- All that `memRead` can do: nothing if the bus never answers, else one counted, logged and hazard-checked
transaction. -/
theorem memRead_eq (reg : Byte) (n : Nat) (s : State) :
    memRead reg n s = (s.readAnswer reg n).map fun r =>
      (r, State.log (.busRead s.devAddr reg n r) (s.startTransaction.countTransaction n)) := by
  unfold memRead
  cases s.readAnswer reg n <;> rfl

/-- All that `memWrite` can do. -/
theorem memWrite_eq (reg : Byte) (bytes : List Byte) (s : State) :
    memWrite reg bytes s = s.writeAnswer.map fun r =>
      (r, State.log (.busWrite s.devAddr reg bytes r)
        ((s.startTransaction.setDevice (s.deviceAfterWrite reg bytes r)).countTransaction bytes.length)) := by
  unfold memWrite
  cases s.writeAnswer <;> rfl

/-- A write changes no offset outside its bytes. -/
theorem deviceAfterWrite_outside (reg : Byte) (bytes : List Byte) (r : WriteResult) (s : State) (a : Nat)
    (h : a < reg.toNat ∨ reg.toNat + bytes.length ≤ a) :
    Memory.read (s.deviceAfterWrite reg bytes r) a = Memory.read s.device a := by
  unfold State.deviceAfterWrite
  split
  · cases r with
    | ok => exact Memory.read_writeBytes_outside _ _ _ _ h
    | err => exact Memory.read_writeBytes_outside _ _ _ _ (by rw [length_freeBytes]; exact h)
  · rfl

/-- Under SimDevice an `Ok` write leaves its bytes. -/
theorem deviceAfterWrite_inside (reg : Byte) (bytes : List Byte) (s : State) (i : Nat) (hsim : s.cfg.simDevice = true)
    (h : i < bytes.length) : Memory.read (s.deviceAfterWrite reg bytes .ok) (reg.toNat + i) = bytes.getD i 0 := by
  simp only [State.deviceAfterWrite, hsim, if_true]
  exact Memory.read_writeBytes_inside _ _ _ _ h

/-- With the real device nothing is kept. -/
theorem deviceAfterWrite_real (reg : Byte) (bytes : List Byte) (r : WriteResult) (s : State)
    (hreal : s.cfg.simDevice = false) : s.deviceAfterWrite reg bytes r = s.device := by
  simp [State.deviceAfterWrite, hreal]

/-- A write inside the device space keeps the memory's canonical form. -/
theorem deviceAfterWrite_wf (reg : Byte) (bytes : List Byte) (r : WriteResult) (s : State)
    (hlen : reg.toNat + bytes.length ≤ 256) (h : Memory.wf s.device = true) :
    Memory.wf (s.deviceAfterWrite reg bytes r) = true := by
  unfold State.deviceAfterWrite
  split
  · cases r with
    | ok => exact Memory.wf_writeBytes _ _ _ hlen h
    | err => exact Memory.wf_writeBytes _ _ _ (by rw [length_freeBytes]; exact hlen) h
  · exact h

/-! ### Bodies -/

/-- All that a query's body can do. -/
theorem query_cases {reg : Byte} {n : Nat} {decoded : List Byte → State → State} {dflt : State → State} {s t : State}
    (h : query reg n decoded dflt s = some t) :
    (∃ bytes, s.readAnswer reg n = some (.ok bytes) ∧
        t = decoded bytes (State.log (.busRead s.devAddr reg n (.ok bytes)) (s.startTransaction.countTransaction n))) ∨
      (s.readAnswer reg n = some .err ∧
        t = (dflt (State.log (.busRead s.devAddr reg n .err) (s.startTransaction.countTransaction n))).setStatus
          s.status.substituted) := by
  unfold query at h
  rw [memRead_eq] at h
  cases hr : s.readAnswer reg n with
  | none => simp [hr] at h
  | some r => cases r with
    | ok bytes => exact .inl ⟨bytes, rfl, by simpa [hr] using h.symm⟩
    | err => exact .inr ⟨rfl, by simpa [hr] using h.symm⟩

/-- All that a control command's body can do. -/
theorem controlWrite_cases {reg value : Byte} {s t : State} (h : controlWrite reg value s = some t) :
    ∃ r, s.writeAnswer = some r ∧
      t = settle (noteWrite r (State.log (.busWrite s.devAddr reg [value] r)
        ((s.startTransaction.setDevice (s.deviceAfterWrite reg [value] r)).countTransaction 1))) := by
  unfold controlWrite at h
  rw [memWrite_eq] at h
  cases hr : s.writeAnswer with
  | none => simp [hr] at h
  | some r => exact ⟨r, rfl, by simpa [hr] using h.symm⟩

/-- All that WRREG's body can do: a cell without value is recorded and nothing is sent, or the payload is sent. -/
theorem rawWrite_cases {reg len : Byte} {s t : State} (h : rawWrite reg len s = some t) :
    (cellsValid s.txbuf len.toNat = false ∧ t = s.requireValue false) ∨
      (cellsValid s.txbuf len.toNat = true ∧ ∃ r u, s.writeAnswer = some r ∧
        u = State.log (.busWrite s.devAddr reg (cellBits s.txbuf len.toNat) r)
          ((s.startTransaction.setDevice (s.deviceAfterWrite reg (cellBits s.txbuf len.toNat) r)).countTransaction
            len.toNat) ∧
        t = noteWrite r (u.setSettleOwed (s.settleOwed || touchesControl reg len))) := by
  unfold rawWrite at h
  cases hv : cellsValid s.txbuf len.toNat with
  | false => exact .inl ⟨rfl, by simpa [hv] using h.symm⟩
  | true =>
    rw [if_pos hv, memWrite_eq, length_cellBits] at h
    cases hr : s.writeAnswer with
    | none => simp [hr] at h
    | some r => exact .inr ⟨rfl, r, _, rfl, rfl, by simpa [hr] using h.symm⟩

/-- All that RDREG's body can do. -/
theorem rawRead_cases {reg len : Byte} {s t : State} (h : rawRead reg len s = some t) :
    (∃ bytes, s.readAnswer reg len.toNat = some (.ok bytes) ∧
        t = (State.log (.busRead s.devAddr reg len.toNat (.ok bytes))
          (s.startTransaction.countTransaction len.toNat)).setRxbuf (overlay (bytes.map .of) s.rxbuf)) ∨
      (s.readAnswer reg len.toNat = some .err ∧
        t = ((State.log (.busRead s.devAddr reg len.toNat .err)
          (s.startTransaction.countTransaction len.toNat)).setRxbuf
            (overlay ((freeBytes s.draws len.toNat).map .invalid) s.rxbuf)).setStatus s.status.failed) := by
  unfold rawRead at h
  rw [memRead_eq] at h
  cases hr : s.readAnswer reg len.toNat with
  | none => simp [hr] at h
  | some r => cases r with
    | ok bytes => exact .inl ⟨bytes, rfl, by simpa [hr] using h.symm⟩
    | err => exact .inr ⟨rfl, by simpa [hr] using h.symm⟩

/-- All that the command frame can do: NOT_READY, a bus that never answers, or the body between prologue and epilogue. -/
theorem executed_cases (body : State → Option State) (s : State) :
    (s.status.ready = false ∧ executed body s = s.setStatus ⟨false, false, false, false, false, true, 5⟩) ∨
      (s.status.ready = true ∧ body (prologue s) = none ∧ executed body s = s) ∨
      (s.status.ready = true ∧ ∃ t, body (prologue s) = some t ∧ executed body s = epilogue t) := by
  unfold executed
  cases hr : s.status.ready with
  | false =>
    refine .inl ⟨rfl, ?_⟩
    simp [State.setStatus, Status.cleared, Status.faulted, Status.completed, causeCode, hr]
  | true =>
    cases hb : body (prologue s) with
    | none => exact .inr (.inl ⟨rfl, rfl, by simp⟩)
    | some t => exact .inr (.inr ⟨rfl, t, rfl, by simp⟩)

/-! ### Numerators -/

/-- A coordinate's numerator stays in its bound (R143). -/
theorem coordinateNumerator_le (b : List Byte) : coordinateNumerator b ≤ 1572277215 := by
  unfold coordinateNumerator be24
  have h0 := (byteAt b 0).isLt
  have h1 := (byteAt b 1).isLt
  have h2 := (byteAt b 2).isLt
  have h3 := (byteAt b 3).isLt
  have h4 := (byteAt b 4).isLt
  omega

/-- A triple's numerator stays in its bound (R146). -/
theorem tripleNumerator_le (b : List Byte) : tripleNumerator b ≤ 6553755 := by
  unfold tripleNumerator be16
  have h0 := (byteAt b 0).isLt
  have h1 := (byteAt b 1).isLt
  have h2 := (byteAt b 2).isLt
  omega

end Sys2Proof.Machine
end

