-- ==== Sys2Proof/Laws/Exec.lean ====
section
/-! SUPPORT. Every command is the shared command frame around a body: what `exec` can do, said once. -/

namespace Sys2Proof.Machine

/-- The body of each command, between prologue and epilogue. -/
def bodyOf (i : Instr) : State → Option State :=
  match i with
  | .wrreg reg len => fun p =>
    match transferFault p.cfg.maxXfer reg len with
    | some c => some (raiseFault c p)
    | none => rawWrite reg len p
  | .rdreg reg len => fun p =>
    match transferFault p.cfg.maxXfer reg len with
    | some c => some (raiseFault c p)
    | none => rawRead reg len p
  | .deccoord => fun p => some (decodeCoordinateBuffer p)
  | .dectriple => fun p => some (decodeTripleBuffer p)
  | .setmode mode => fun p =>
    if modeAccepted mode then controlWrite regGnssMode mode p else some (p.setStatus p.status.refusedMode)
  | .getmode => query regGnssMode 1 writeCount defaultCount
  | .pwron => controlWrite regSleepMode powerEnable
  | .pwroff => controlWrite regSleepMode powerDisable
  | .rgbon => controlWrite regRgbMode rgbOn
  | .rgboff => controlWrite regRgbMode rgbOff
  | .getsats => query regSatellites 1 writeCount defaultCount
  | .getdate => query regYearHigh 4 writeDate defaultDate
  | .gettime => query regHour 3 writeTime defaultTime
  | .getlat => query regLatitude 6 writeCoordinate (defaultCoordinate letterS)
  | .getlon => query regLongitude 6 writeCoordinate (defaultCoordinate letterW)
  | .getalt => query regAltitude 3 writeTriple defaultTriple
  | .getcog => query regCourse 3 writeTriple defaultTriple
  | .getsog => query regSpeed 3 writeTriple defaultTriple

theorem exec_eq_command (i : Instr) (s : State) : exec i s = command (bodyOf i) s := by cases i <;> rfl

/-- Every command ends in a next state, and there are three ways to it. -/
theorem exec_cases {i : Instr} {s t : State} (h : exec i s = .next t) :
    (s.status.ready = false ∧ t = s.setStatus ⟨false, false, false, false, false, true, 5⟩) ∨
      (s.status.ready = true ∧ t = s) ∨
      (s.status.ready = true ∧ ∃ u, bodyOf i (prologue s) = some u ∧ t = epilogue u) := by
  rw [exec_eq_command, command] at h
  obtain rfl : executed (bodyOf i) s = t := by simpa using h
  obtain ⟨hr, he⟩ | ⟨hr, -, he⟩ | ⟨hr, u, hu, he⟩ := executed_cases (bodyOf i) s
  · exact .inl ⟨hr, he⟩
  · exact .inr (.inl ⟨hr, he⟩)
  · exact .inr (.inr ⟨hr, u, hu, he⟩)

/-- With READY = 1 a body that ends decides the command. -/
theorem exec_of_body {i : Instr} {s u : State} (hr : s.status.ready = true) (hu : bodyOf i (prologue s) = some u) :
    exec i s = .next (epilogue u) := by
  rw [exec_eq_command, command, executed, if_pos hr, hu]

/-- The ways a command's body `i` can take `p` to `t`. -/
inductive BodyResult : Instr → State → State → Prop where
  /-- Format X's checks refused the command. -/
  | fault (i : Instr) (reg len : Byte) (c : Cause) (p : State) (operands : i = .wrreg reg len ∨ i = .rdreg reg len)
      (refused : transferFault p.cfg.maxXfer reg len = some c) : BodyResult i p (raiseFault c p)
  /-- WRREG's write, or NoValue. -/
  | wrreg (reg len : Byte) (p t : State) (passed : transferFault p.cfg.maxXfer reg len = none)
      (body : rawWrite reg len p = some t) : BodyResult (.wrreg reg len) p t
  /-- RDREG's read. -/
  | rdreg (reg len : Byte) (p t : State) (passed : transferFault p.cfg.maxXfer reg len = none)
      (body : rawRead reg len p = some t) : BodyResult (.rdreg reg len) p t
  /-- DECCOORD's decoding. -/
  | deccoord (p : State) : BodyResult .deccoord p (decodeCoordinateBuffer p)
  /-- DECTRIPLE's decoding. -/
  | dectriple (p : State) : BodyResult .dectriple p (decodeTripleBuffer p)
  /-- SETMODE's rejection. -/
  | rejected (mode : Byte) (p : State) (outside : modeAccepted mode = false) :
      BodyResult (.setmode mode) p (p.setStatus p.status.refusedMode)
  /-- A control command's write and settle. -/
  | control (i : Instr) (reg value : Byte) (p t : State)
      (which : (i = .setmode value ∧ modeAccepted value = true) ∨ i = .pwron ∨ i = .pwroff ∨ i = .rgbon ∨ i = .rgboff)
      (body : controlWrite reg value p = some t) : BodyResult i p t
  /-- A one-byte query. -/
  | count (i : Instr) (reg : Byte) (p t : State) (which : i = .getmode ∨ i = .getsats)
      (body : query reg 1 writeCount defaultCount p = some t) : BodyResult i p t
  /-- GETDATE's query. -/
  | date (p t : State) (body : query regYearHigh 4 writeDate defaultDate p = some t) : BodyResult .getdate p t
  /-- GETTIME's query. -/
  | time (p t : State) (body : query regHour 3 writeTime defaultTime p = some t) : BodyResult .gettime p t
  /-- A coordinate query. -/
  | coordinate (i : Instr) (reg letter : Byte) (p t : State) (which : i = .getlat ∨ i = .getlon)
      (body : query reg 6 writeCoordinate (defaultCoordinate letter) p = some t) : BodyResult i p t
  /-- A scaled-triple query. -/
  | triple (i : Instr) (reg : Byte) (p t : State) (which : i = .getalt ∨ i = .getcog ∨ i = .getsog)
      (body : query reg 3 writeTriple defaultTriple p = some t) : BodyResult i p t

/-- All that a command's body can do. -/
theorem bodyOf_cases {i : Instr} {p t : State} (h : bodyOf i p = some t) : BodyResult i p t := by
  cases i
  case wrreg reg len =>
    simp only [bodyOf] at h
    split at h
    · obtain rfl := by simpa using h.symm
      exact .fault _ reg len _ _ (.inl rfl) (by assumption)
    · exact .wrreg _ _ _ _ (by assumption) h
  case rdreg reg len =>
    simp only [bodyOf] at h
    split at h
    · obtain rfl := by simpa using h.symm
      exact .fault _ reg len _ _ (.inr rfl) (by assumption)
    · exact .rdreg _ _ _ _ (by assumption) h
  case deccoord =>
    obtain rfl := by simpa [bodyOf] using h.symm
    exact .deccoord _
  case dectriple =>
    obtain rfl := by simpa [bodyOf] using h.symm
    exact .dectriple _
  case setmode mode =>
    simp only [bodyOf] at h
    split at h
    · exact .control _ _ _ _ _ (.inl ⟨rfl, by assumption⟩) h
    · rename_i outside
      obtain rfl := by simpa using h.symm
      exact .rejected _ _ (by simpa using outside)
  case getmode => exact .count _ _ _ _ (.inl rfl) h
  case getsats => exact .count _ _ _ _ (.inr rfl) h
  case pwron => exact .control _ _ _ _ _ (by simp) h
  case pwroff => exact .control _ _ _ _ _ (by simp) h
  case rgbon => exact .control _ _ _ _ _ (by simp) h
  case rgboff => exact .control _ _ _ _ _ (by simp) h
  case getdate => exact .date _ _ h
  case gettime => exact .time _ _ h
  case getlat => exact .coordinate _ _ _ _ _ (.inl rfl) h
  case getlon => exact .coordinate _ _ _ _ _ (.inr rfl) h
  case getalt => exact .triple _ _ _ _ (by simp) h
  case getcog => exact .triple _ _ _ _ (by simp) h
  case getsog => exact .triple _ _ _ _ (by simp) h

end Sys2Proof.Machine
end

