-- ==== Sys2Proof/Laws/PerInstr.lean ====
section
/-! SUPPORT. A fact of each command's encoding: every field of its word stands where R100 puts it. -/

namespace Sys2Proof.Laws.FieldsInPlace

/-- OP, REG and ARG of the command's word are its opcode and operands, and RSV is 0 (R100, R101). -/
def Statement (i : Instr) : Prop :=
  opField (encode i) = i.opcode ∧ regField (encode i) = i.regOperand ∧ argField (encode i) = i.argOperand ∧
    rsvField (encode i) = 0

theorem of_encode (i : Instr) : Statement i :=
  ⟨opField_commandWord _ _ _, regField_commandWord _ _ _, argField_commandWord _ _ _, rsvField_commandWord _ _ _⟩

theorem wrreg (reg len : Byte) : Statement (.wrreg reg len) := of_encode _
theorem rdreg (reg len : Byte) : Statement (.rdreg reg len) := of_encode _
theorem deccoord : Statement .deccoord := of_encode _
theorem dectriple : Statement .dectriple := of_encode _
theorem setmode (mode : Byte) : Statement (.setmode mode) := of_encode _
theorem getmode : Statement .getmode := of_encode _
theorem pwron : Statement .pwron := of_encode _
theorem pwroff : Statement .pwroff := of_encode _
theorem rgbon : Statement .rgbon := of_encode _
theorem rgboff : Statement .rgboff := of_encode _
theorem getsats : Statement .getsats := of_encode _
theorem getdate : Statement .getdate := of_encode _
theorem gettime : Statement .gettime := of_encode _
theorem getlat : Statement .getlat := of_encode _
theorem getlon : Statement .getlon := of_encode _
theorem getalt : Statement .getalt := of_encode _
theorem getcog : Statement .getcog := of_encode _
theorem getsog : Statement .getsog := of_encode _

end Sys2Proof.Laws.FieldsInPlace
end

