-- ==== Sys2Proof/Laws/Step.lean ====
section
/-! SUPPORT. What a step can do, said once, and what each kind of turn leaves alone. -/

namespace Sys2Proof.Machine

/-- The decoder refuses a word for one of two causes only. -/
theorem decode_reject_cause {w : Word} {c : Cause} (h : decode w = .reject c) : c = .illegalOpcode ∨ c = .reservedBits := by
  unfold decode at h
  split at h
  · exact .inl (by simpa using h.symm)
  · split at h
    · exact .inr (by simpa using h.symm)
    · split at h
      · simp at h
      · split at h
        · exact .inr (by simpa using h.symm)
        · simp at h
      · split at h
        · exact .inr (by simpa using h.symm)
        · simp at h

/-- `u` is the state a turn finds: `s`, or `s` with the turn taken off the agenda. -/
def TurnStart (s u : State) : Prop := u = s ∨ ∃ rest, u = s.setAgenda rest

/-- The engine executes a command or refuses a word. -/
theorem execute_cases {s t : State} (h : execute s = .next t) :
    (∃ i, decode s.cmd = .command i ∧ exec i s = .next t) ∨
      ∃ c, decode s.cmd = .reject c ∧ rejectCommand c s = .next t := by
  unfold execute at h
  split at h
  · exact .inl ⟨_, by assumption, h⟩
  · exact .inr ⟨_, by assumption, h⟩

/-- All that a step can do: a host action, a block reset, nothing, an idle engine's turn, a command, a refused word. -/
theorem step_cases {s t : State} (h : step s = .next t) :
    (∃ a u, TurnStart s u ∧ t = hostAction a u) ∨ (∃ initOk rest, t = blockReset initOk (s.setAgenda rest)) ∨
      TurnStart s t ∨
      (∃ u i, TurnStart s u ∧ decode u.cmd = .command i ∧ exec i u = .next t) ∨
      ∃ u c, TurnStart s u ∧ decode u.cmd = .reject c ∧ rejectCommand c u = .next t := by
  have engine : ∀ u, TurnStart s u → execute u = .next t →
      (∃ u i, TurnStart s u ∧ decode u.cmd = .command i ∧ exec i u = .next t) ∨
        ∃ u c, TurnStart s u ∧ decode u.cmd = .reject c ∧ rejectCommand c u = .next t := by
    intro u hu he
    obtain ⟨i, hi⟩ | ⟨c, hc⟩ := execute_cases he
    · exact .inl ⟨u, i, hu, hi⟩
    · exact .inr ⟨u, c, hu, hc⟩
  unfold step nextTurn at h
  split at h
  · unfold engineTurn at h
    split at h
    · exact .inr (.inr (.inr (engine s (.inl rfl) h)))
    · exact .inr (.inr (.inl (.inl (by simpa using h.symm))))
  · split at h
    · exact .inr (.inr (.inr (engine s (.inl rfl) h)))
    · rename_i rest _ _
      have hu : TurnStart s (s.setAgenda rest) := .inr ⟨_, rfl⟩
      unfold takeTurn at h
      split at h
      · exact .inl ⟨_, _, hu, by simpa using h.symm⟩
      · unfold engineTurn at h
        split at h
        · exact .inr (.inr (.inr (engine _ hu h)))
        · exact .inr (.inr (.inl (.inr ⟨_, by simpa using h.symm⟩)))
      · exact .inr (.inl ⟨_, _, by simpa using h.symm⟩)

/-- What no host action changes. -/
structure HostFrame (s t : State) : Prop where
  cfg : t.cfg = s.cfg
  devAddr : t.devAddr = s.devAddr
  device : t.device = s.device
  resNum : t.resNum = s.resNum
  resDen : t.resDen = s.resDen
  txbufLength : t.txbuf.length = s.txbuf.length
  rxbufLength : t.rxbuf.length = s.rxbuf.length
  status : t.status.completed = s.status.completed

/-- A read of a slot writes the model fault record or the replies alone. -/
theorem readSlot_cases {w : Nat} (slot : Slot w) (s : State) :
    (slot.valid = true ∧ readSlot slot s = s.reply (slot.bits.setWidth 32)) ∨
      (slot.valid = false ∧ readSlot slot s = s.setModelFaults (s.modelFaults.missing true)) := by
  unfold readSlot
  cases h : slot.valid with
  | true => exact .inl ⟨rfl, rfl⟩
  | false => exact .inr ⟨rfl, rfl⟩

/-- A window read writes the model fault record or the replies alone. -/
theorem hostRead_cases (offset width : Nat) (s : State) :
    (∃ w, hostRead offset width s = s.reply w) ∨ hostRead offset width s = s.setModelFaults s.modelFaults.intruded ∨
      hostRead offset width s = s.setModelFaults (s.modelFaults.missing true) ∨
      hostRead offset width s = s.setModelFaults s.modelFaults.misaligned := by
  have slot : ∀ {w : Nat} (sl : Slot w), (∃ w, readSlot sl s = s.reply w) ∨
      readSlot sl s = s.setModelFaults s.modelFaults.intruded ∨
      readSlot sl s = s.setModelFaults (s.modelFaults.missing true) ∨
      readSlot sl s = s.setModelFaults s.modelFaults.misaligned := by
    intro w sl
    obtain ⟨-, h⟩ | ⟨-, h⟩ := readSlot_cases sl s
    · exact .inl ⟨_, h⟩
    · exact .inr (.inr (.inl h))
  unfold hostRead
  split
  · exact .inr (.inr (.inr rfl))
  · split
    · exact .inr (.inl rfl)
    · unfold readRegister
      split <;> first | exact slot _ | exact .inl ⟨_, rfl⟩

/-- A window write issues a command, stores one cell, writes the model fault record, or does nothing. -/
theorem hostWrite_cases (offset width : Nat) (v : Word) (s : State) :
    hostWrite offset width v s = issue v s ∨ (∃ i, hostWrite offset width v s = s.setTxbuf (storeCell s.txbuf i v)) ∨
      (∃ i, hostWrite offset width v s = s.setRxbuf (storeCell s.rxbuf i v)) ∨ hostWrite offset width v s = s ∨
      hostWrite offset width v s = s.setModelFaults s.modelFaults.intruded ∨
      hostWrite offset width v s = s.setModelFaults s.modelFaults.misaligned := by
  unfold hostWrite
  split
  · exact .inr (.inr (.inr (.inr (.inr rfl))))
  · split
    · exact .inr (.inr (.inr (.inr (.inl rfl))))
    · unfold writeRegister
      split
      · exact .inl rfl
      · exact .inr (.inl ⟨_, rfl⟩)
      · exact .inr (.inr (.inl ⟨_, rfl⟩))
      all_goals exact .inr (.inr (.inr (.inl rfl)))

/-- A host action keeps the parameters, the device, the results, the buffers' sizes and STATUS but for BUSY. -/
theorem hostAction_frame (a : HostAction) (s : State) : HostFrame s (hostAction a s) := by
  have read : ∀ offset width, HostFrame s (hostRead offset width s) := by
    intro offset width
    obtain ⟨w, h⟩ | h | h | h := hostRead_cases offset width s <;> rw [h] <;> constructor <;> simp
  cases a with
  | write offset width v =>
    show HostFrame s (hostWrite offset width v s)
    obtain h | ⟨i, h⟩ | ⟨i, h⟩ | h | h | h := hostWrite_cases offset width v s <;> rw [h] <;> constructor <;>
      simp [issue, storeCell, Status.issued, Status.completed]
  | read offset width => exact read offset width
  | delay ms => constructor <;> simp [hostAction, hostDelay]
  | wait => exact read 0x004 4

/-- Every write that a reset can cut short stays inside the device space. -/
theorem inFlight_write_range {s : State} {reg : Byte} {n : Nat} (h : inFlight s = some (.write reg n)) :
    reg.toNat + n ≤ 256 := by
  unfold inFlight at h
  split at h
  · split at h
    · rename_i i _
      cases i <;> simp [transferOf] at h
      case wrreg r l =>
        obtain ⟨⟨h1, -⟩, rfl, rfl⟩ := h
        exact ((transferFault_eq_none_iff _ _ _).1 (by simpa using h1)).2.2
      all_goals first | (obtain ⟨-, rfl, rfl⟩ := h; decide) | (obtain ⟨rfl, rfl⟩ := h; decide)
    · simp at h
  · simp at h

/-- Abandoning a command keeps the device memory's canonical form. -/
theorem abandon_wf (s : State) (h : Memory.wf s.device = true) : Memory.wf (abandon s).device = true := by
  unfold abandon
  split
  · exact h
  · rename_i reg n hf
    refine deviceAfterWrite_wf reg (freeBytes s.draws n) .err s ?_ h
    rw [length_freeBytes]
    exact inFlight_write_range hf
  · exact h

end Sys2Proof.Machine
end

