-- ==== Sys2Proof/Laws/Safety.lean ====
section
/-! SUPPORT. Which writers leave a legal rational (R44, R143, R146), and that only writers of a field matter to it. -/

namespace Sys2Proof.Machine

theorem rationalLegal_congr {s t : State} (hnum : t.resNum = s.resNum) (hden : t.resDen = s.resDen)
    (h : s.rationalLegal) : t.rationalLegal := by
  unfold State.rationalLegal
  rw [hnum, hden]
  exact h

theorem rationalLegal_writeCoordinate (b : List Byte) (s : State) : (writeCoordinate b s).rationalLegal := by
  have := coordinateNumerator_le b
  refine ⟨fun _ => .inl rfl, fun _ => ⟨rfl, .inl ⟨rfl, ?_⟩⟩⟩
  simp [writeCoordinate, Slot.of]
  omega

theorem rationalLegal_writeTriple (b : List Byte) (s : State) : (writeTriple b s).rationalLegal := by
  have := tripleNumerator_le b
  refine ⟨fun _ => .inr (.inl rfl), fun _ => ⟨rfl, .inr (.inl ⟨rfl, ?_⟩)⟩⟩
  simp [writeTriple, Slot.of]
  omega

theorem rationalLegal_writeCount (b : List Byte) (s : State) : (writeCount b s).rationalLegal := by
  have := (byteAt b 0).isLt
  refine ⟨fun _ => .inr (.inr rfl), fun _ => ⟨rfl, .inr (.inr ⟨rfl, ?_⟩)⟩⟩
  simp [writeCount, Slot.of]
  omega

theorem rationalLegal_defaultCoordinate (letter : Byte) (s : State) : (defaultCoordinate letter s).rationalLegal := by
  refine ⟨fun _ => .inl ?_, fun _ => ⟨?_, .inl ⟨?_, ?_⟩⟩⟩ <;> simp [defaultCoordinate, coordinateDenominator, Slot.of]

theorem rationalLegal_defaultTriple (s : State) : (defaultTriple s).rationalLegal :=
  ⟨fun _ => .inr (.inl rfl), fun _ => ⟨rfl, .inr (.inl ⟨rfl, Nat.zero_le _⟩)⟩⟩

theorem rationalLegal_defaultCount (s : State) : (defaultCount s).rationalLegal :=
  ⟨fun _ => .inr (.inr rfl), fun _ => ⟨rfl, .inr (.inr ⟨rfl, Nat.zero_le _⟩)⟩⟩

/-- Taking RES_NUM's value away keeps the pair legal. -/
theorem rationalLegal_knownNumber (known : Bool) {s : State} (h : s.rationalLegal) :
    (s.knownNumber known).rationalLegal :=
  ⟨h.1, fun hk => h.2 (by simp at hk; exact hk.1)⟩

/-- What is recorded stays recorded under each addition to the record. -/
theorem within_refl (f : ModelFaults) : f.within f := ⟨id, id, id, id⟩

theorem within_settling (c : Bool) (f : ModelFaults) : f.within (f.settling c) := by
  simp [ModelFaults.within, ModelFaults.settling]
  exact fun h => .inl h

theorem within_missing (c : Bool) (f : ModelFaults) : f.within (f.missing c) := by
  simp [ModelFaults.within, ModelFaults.missing]
  exact fun h => .inl h

theorem within_intruded (f : ModelFaults) : f.within f.intruded := by simp [ModelFaults.within, ModelFaults.intruded]

theorem within_misaligned (f : ModelFaults) : f.within f.misaligned := by simp [ModelFaults.within, ModelFaults.misaligned]

end Sys2Proof.Machine
end

