-- ==== Sys2Proof/Tests/Slice0.lean ====
section
/-! SUPPORT. The model's own tests. Expected values come from the spec's tables and worked examples (R113,
95_test_vectors.md) or are counted by hand from the rule cited. `witness_X` meets the hypotheses of `Obligations.X`. -/

namespace Sys2Proof.Tests

open Sys2Proof.Machine

/-! ### States -/

/-- Reset with the bus's answers to come. -/
def onBus (answers : List BusReply) : State := { State.reset with bus := answers }

/-- Reset with the simulated device holding `cells`; the transactions of `failures` fail. -/
def onDevice (cells : Memory) (failures : List Nat) : State :=
  { State.reset with cfg := { Config.standard with simDevice := true, failures := failures }, device := cells }

/-- `s` with bytes in the first cells of TXBUF. -/
def withTx (bytes : List Byte) (s : State) : State := s.setTxbuf (overlay (bytes.map .of) s.txbuf)

/-- `s` with bytes in the first cells of RXBUF. -/
def withRx (bytes : List Byte) (s : State) : State := s.setRxbuf (overlay (bytes.map .of) s.rxbuf)

/-- `s` with its turns to come. -/
def withTurns (turns : List Turn) (s : State) : State := s.setAgenda turns

/-- `s` while a word is issued. -/
def issued (w : Word) (s : State) : State := (s.setCmd w).setStatus s.status.issued

/-- The next state of an outcome. -/
def nextOf (o : Host.Outcome State Fault Refusal) : State :=
  match o with
  | .next t => t
  | _ => State.reset

/-- The state after the Execute step of a command. -/
def after (i : Instr) (s : State) : State := nextOf (exec i s)

/-! ### Well-formedness: an ill-formed command for each check (R104, R76) -/

theorem test_zero_length_ill_formed : (Instr.rdreg 0x00 0).wellFormed 64 = false := by decide
theorem test_long_length_ill_formed : (Instr.wrreg 0x00 65).wellFormed 64 = false := by decide
theorem test_range_ill_formed : (Instr.rdreg 0xFE 6).wellFormed 64 = false := by decide
theorem test_last_range_well_formed : (Instr.rdreg 0xFA 6).wellFormed 64 = true := by decide

/-! ### Decoding: every command's word (95_test_vectors.md 2.1) -/

theorem test_decode_wrreg : decode 0x01220100 = .command (.wrreg 0x22 1) := by decide
theorem test_decode_rdreg : decode 0x02070600 = .command (.rdreg 0x07 6) := by decide
theorem test_decode_deccoord : decode 0x10000000 = .command .deccoord := by decide
theorem test_decode_dectriple : decode 0x11000000 = .command .dectriple := by decide
theorem test_decode_setmode : decode 0x20000300 = .command (.setmode 3) := by decide
theorem test_decode_getmode : decode 0x21000000 = .command .getmode := by decide
theorem test_decode_pwron : decode 0x22000000 = .command .pwron := by decide
theorem test_decode_pwroff : decode 0x23000000 = .command .pwroff := by decide
theorem test_decode_rgbon : decode 0x24000000 = .command .rgbon := by decide
theorem test_decode_rgboff : decode 0x25000000 = .command .rgboff := by decide
theorem test_decode_getsats : decode 0x26000000 = .command .getsats := by decide
theorem test_decode_getdate : decode 0x27000000 = .command .getdate := by decide
theorem test_decode_gettime : decode 0x28000000 = .command .gettime := by decide
theorem test_decode_getlat : decode 0x29000000 = .command .getlat := by decide
theorem test_decode_getlon : decode 0x2A000000 = .command .getlon := by decide
theorem test_decode_getalt : decode 0x2B000000 = .command .getalt := by decide
theorem test_decode_getcog : decode 0x2C000000 = .command .getcog := by decide
theorem test_decode_getsog : decode 0x2D000000 = .command .getsog := by decide
theorem test_decode_reserved_wins : decode 0xFF0000FF = .reject .illegalOpcode := by decide
theorem test_decode_reserved_bits : decode 0x2D000100 = .reject .reservedBits := by decide
theorem test_encode_rdreg : encode (.rdreg 0x07 6) = 0x02070600 := by decide
theorem test_encode_setmode : encode (.setmode 9) = 0x20000900 := by decide

/-! ### One step of each command (the examples of 40 to 43, V1 to V3) -/

/-- R130's example. -/
theorem test_wrreg : (after (.wrreg 0x22 1) (withTx [0x05] (onDevice [] []))).history = [.busWrite 0x20 0x22 [0x05] .ok] ∧
    (after (.wrreg 0x22 1) (withTx [0x05] (onDevice [] []))).settleOwed = true := by decide

/-- 95_test_vectors.md 2.2: after reset there is no payload and no transaction. -/
theorem test_wrreg_without_payload : (after (.wrreg 0x00 1) State.reset).history = [] ∧
    (after (.wrreg 0x00 1) State.reset).modelFaults.noValue = true := by decide

/-- R131's example. -/
theorem test_rdreg : ((after (.rdreg 0x07 6) (onDevice [(7, 12), (8, 34), (9, 0), (10, 0), (11, 0), (12, 0x4E)] [])).rxbuf.take 7)
    = [.of 0x0C, .of 0x22, .of 0x00, .of 0x00, .of 0x00, .of 0x4E, .unwritten] := by decide

/-- V1. -/
theorem test_deccoord : (after .deccoord (withRx [12, 34, 0, 0, 0, 0x4E] State.reset)).resNum = .of 75400000 ∧
    (after .deccoord (withRx [12, 34, 0, 0, 0, 0x4E] State.reset)).resChr = .of 0x4E := by decide

/-- R218: five values and no letter give a numerator and no letter. -/
theorem test_deccoord_without_letter : (after .deccoord (withRx [12, 34, 0, 0, 0] State.reset)).resNum = .of 75400000 ∧
    (after .deccoord (withRx [12, 34, 0, 0, 0] State.reset)).resChr.valid = false := by decide

/-- V2. -/
theorem test_dectriple : (after .dectriple (withRx [1, 44, 50] State.reset)).resNum = .of 30050 := by decide

/-- 95_test_vectors.md 2.3: after reset there is nothing to decode. -/
theorem test_dectriple_without_value : (after .dectriple State.reset).resNum.valid = false ∧
    (after .dectriple State.reset).modelFaults.noValue = true := by decide

/-- R160's examples. -/
theorem test_setmode : (after (.setmode 5) (onDevice [] [])).history =
    [.busWrite 0x20 0x22 [0x05] .ok, .settle 100] := by decide
theorem test_setmode_rejects : (after (.setmode 9) State.reset).status.toWord = 0x012 := by decide

/-- R161's example. -/
theorem test_pwron : (after .pwron (onDevice [] [])).history = [.busWrite 0x20 0x23 [0x00] .ok, .settle 100] := by decide

/-- R162's example: the write fails. -/
theorem test_pwroff : (after .pwroff (onBus [.err])).history = [.busWrite 0x20 0x23 [0x01] .err, .settle 100] := by decide
theorem test_pwroff_status : (after .pwroff (onBus [.err])).status.toWord = 0x006 := by decide

/-- R163's example. -/
theorem test_rgbon : (after .rgbon (onDevice [] [])).history = [.busWrite 0x20 0x24 [0x05] .ok, .settle 100] := by decide

/-- R164's example. -/
theorem test_rgboff : (after .rgboff (onDevice [] [])).history = [.busWrite 0x20 0x24 [0x02] .ok, .settle 100] := by decide

/-- R182's example. -/
theorem test_getmode : (after .getmode (onDevice [(0x22, 5)] [])).resNum = .of 5 := by decide

/-- R183's example. -/
theorem test_getsats : (after .getsats (onDevice [(0x13, 9)] [])).resNum = .of 9 := by decide

/-- R184's example and V3. -/
theorem test_getdate : (after .getdate (onDevice [(0, 0x07), (1, 0xE8), (2, 12), (3, 28)] [])).dateText = some "2024-12-28" := by
  decide
theorem test_getdate_default : (after .getdate (onBus [.err])).dateText = some "2000-01-01" := by decide

/-- R185's example and V3. -/
theorem test_gettime : (after .gettime (onDevice [(4, 23), (5, 59), (6, 59)] [])).timeText = some "23:59:59" := by decide
theorem test_gettime_default : (after .gettime (onBus [.err])).timeText = some "00:00:00" := by decide

/-- P2's latitude and V3. -/
theorem test_getlat : (after .getlat (onBus [.ok [0x30, 0x08, 0x00, 0x30, 0x39, 0x4E]])).resNum = .of 288812345 := by decide
theorem test_getlat_default : (after .getlat (onBus [.err])).resChr = .of 0x53 := by decide

/-- R187's example. -/
theorem test_getlon : (after .getlon (onBus [.ok [11, 34, 0x00, 0xC3, 0x50, 0x45]])).resNum = .of 69450000 := by decide
theorem test_getlon_default : (after .getlon (onBus [.err])).resChr = .of 0x57 := by decide

/-- R188's example. -/
theorem test_getalt : (after .getalt (onBus [.ok [1, 44, 50]])).resNum = .of 30050 := by decide

/-- R189's example. -/
theorem test_getcog : (after .getcog (onDevice [(0x1A, 0x01), (0x1B, 0x0E), (0x1C, 25)] [])).resNum = .of 27025 := by decide

/-- R190's example. -/
theorem test_getsog : (after .getsog (onDevice [(0x17, 0), (0x18, 12), (0x19, 7)] [])).resNum = .of 1207 := by decide

/-! ### The step, the window and the assembler -/

/-- The word placed for the fetch runs on the very next step (R213's example). -/
theorem test_placed_illegal_word : (nextOf (step (State.reset.withFetchWord 32 0x00000000))).status.toWord = 0x122 := by
  decide
theorem test_table_word : decodeTableWord 32 0x20000500 = some (.setmode 5) := by decide

/-- R221's example. -/
theorem test_placed_bad_length : (nextOf (step (State.reset.withFetchWord 32 0x02004100))).status.toWord = 0x322 := by decide

/-- A host's `st CMD` leaves BUSY and READY (R33, R35). -/
theorem test_issue : (nextOf (step (withTurns [storeTurn 0x000 0x29000000] State.reset))).status.toWord = 0x003 := by decide

/-- DEV_ADDR reads its default (R48). -/
theorem test_read_dev_addr : (nextOf (step (withTurns [loadTurn 0x020] State.reset))).replies = [0x20] := by decide

/-- A result register that holds no value gives none (R218). -/
theorem test_read_without_value : (nextOf (step (withTurns [loadTurn 0x008] State.reset))).modelFaults.noValue = true := by
  decide

/-- R113's lines, and the refusals of R108. -/
theorem test_assemble_rdreg : assemble 1 "rdreg 0x07, 6" = .word 0x02070600 := by decide
theorem test_assemble_word : assemble 1 ".word 0x29000001" = .word 0x29000001 := by decide
theorem test_assemble_range : assemble 7 "setmode 256" = .refused 7 .operandRange := by decide
theorem test_assemble_unknown : assemble 7 "nop" = .refused 7 .unknownMnemonic := by decide

/-- V6: both forms of the coercion are the same host program. -/
theorem test_wrreg_byte_is_sequence : wrregSequence 64 0x24 [0x05] = some (wrregByte 0x24 0x05) := by decide

/-! ### Witnesses -/

theorem witness_EncodeOfDecode : decode 0x01FFFF00 = .command (.wrreg 0xFF 0xFF) := by decide

theorem witness_MustBeZeroFieldsRefused :
    decode 0x29000001 ≠ .reject .illegalOpcode ∧ decode 0x20010000 ≠ .reject .illegalOpcode ∧
      decode 0x10000100 ≠ .reject .illegalOpcode ∧ decode 0x02FFFF00 ≠ .reject .illegalOpcode := by decide

/-- Each clause of the statement: an engine turn, no turn, a host at `wait`. -/
theorem witness_StepRunsTheDecodedCommand :
    (issued 0x29000000 State.reset).status.busy = true ∧
      decode (issued 0x29000000 State.reset).cmd = .command .getlat ∧
      (withTurns [.engine] (issued 0x29000000 State.reset)).agenda = [.engine] ∧
      (issued 0x29000000 State.reset).agenda = [] ∧
      (withTurns [.host .wait] (issued 0x29000000 State.reset)).agenda = [.host .wait] := by decide

theorem witness_PlacedWordRunsNext : decodeTableWord 32 0x02070600 = some (.rdreg 0x07 6) := by decide

theorem witness_IssueStoresCommandAndSetsBusy :
    (withTurns [.host (.write 0x000 4 0x29000000)] State.reset).status.busy = false ∧
      (withTurns [.host (.write 0x000 4 0x29000000)] State.reset).agenda = [.host (.write 0x000 4 0x29000000)] := by decide

/-- The block whose construction failed, with a word issued and the engine's turn next. -/
def notReady : State := withTurns [.engine] (issued 0x00000000 (.constructed .standard false))

theorem witness_NotReadyRefusesEveryCommand :
    notReady.status.ready = false ∧ notReady.status.busy = true ∧ notReady.agenda = [.engine] := by decide

/-- Both causes, with READY = 1 and with READY = 0. -/
theorem witness_UndecodableWordFaults :
    notReady.status.busy = true ∧ notReady.agenda = [.engine] ∧ decode notReady.cmd = .reject .illegalOpcode ∧
      (withTurns [.engine] (issued 0x29000001 State.reset)).status.busy = true ∧
      (withTurns [.engine] (issued 0x29000001 State.reset)).agenda = [.engine] ∧
      decode (withTurns [.engine] (issued 0x29000001 State.reset)).cmd = .reject .reservedBits := by decide

/-- LEN at both ends outside its range. -/
theorem witness_BadLengthFaults :
    State.reset.status.ready = true ∧ ((0 : Byte).toNat = 0 ∨ State.reset.cfg.maxXfer < (0 : Byte).toNat) ∧
      ((65 : Byte).toNat = 0 ∨ State.reset.cfg.maxXfer < (65 : Byte).toNat) := by decide

/-- The first offset past the range for six bytes. -/
theorem witness_BadRangeFaults :
    State.reset.status.ready = true ∧ 1 ≤ (6 : Byte).toNat ∧ (6 : Byte).toNat ≤ State.reset.cfg.maxXfer ∧
      256 < (0xFB : Byte).toNat + (6 : Byte).toNat := by decide

/-- Two bytes at the last offsets, sent under SimDevice. -/
theorem witness_WrregWritesPayload :
    (withTx [1, 2] (onDevice [] [])).status.ready = true ∧ 1 ≤ (2 : Byte).toNat ∧
      (2 : Byte).toNat ≤ (withTx [1, 2] (onDevice [] [])).cfg.maxXfer ∧ (0xFE : Byte).toNat + (2 : Byte).toNat ≤ 256 ∧
      (∀ i, i < (2 : Byte).toNat → (cellAt (withTx [1, 2] (onDevice [] [])).txbuf i).valid = true) ∧
      (withTx [1, 2] (onDevice [] [])).writeAnswer = some .ok := by decide

/-- One byte at the last control register, with a bus that fails. -/
theorem witness_WrregWritesPayload_err :
    (withTx [1] (onBus [.err])).status.ready = true ∧ 1 ≤ (1 : Byte).toNat ∧
      (1 : Byte).toNat ≤ (withTx [1] (onBus [.err])).cfg.maxXfer ∧ (0x24 : Byte).toNat + (1 : Byte).toNat ≤ 256 ∧
      (∀ i, i < (1 : Byte).toNat → (cellAt (withTx [1] (onBus [.err])).txbuf i).valid = true) ∧
      (withTx [1] (onBus [.err])).writeAnswer = some .err := by decide

theorem witness_WrregOfMissingValueRecordsNoValue :
    (withTx [1] (onDevice [] [])).status.ready = true ∧ 1 ≤ (2 : Byte).toNat ∧
      (2 : Byte).toNat ≤ (withTx [1] (onDevice [] [])).cfg.maxXfer ∧ (0x22 : Byte).toNat + (2 : Byte).toNat ≤ 256 ∧
      1 < (2 : Byte).toNat ∧ (cellAt (withTx [1] (onDevice [] [])).txbuf 1).valid = false := by decide

theorem witness_RdregStoresBytes :
    (onBus [.ok [7, 8]]).status.ready = true ∧ 1 ≤ (2 : Byte).toNat ∧
      (2 : Byte).toNat ≤ (onBus [.ok [7, 8]]).cfg.maxXfer ∧ (0xFE : Byte).toNat + (2 : Byte).toNat ≤ 256 ∧
      (onBus [.ok [7, 8]]).readAnswer 0xFE (2 : Byte).toNat = some (.ok [7, 8]) := by decide

theorem witness_buffersSized : (onBus [.ok [7, 8]]).buffersSized ∧ (onBus [.err]).buffersSized ∧
    State.reset.buffersSized := ⟨⟨rfl, rfl⟩, ⟨rfl, rfl⟩, ⟨rfl, rfl⟩⟩

theorem witness_FailedRdregInvalidatesCells :
    (onBus [.err]).status.ready = true ∧ 1 ≤ (64 : Byte).toNat ∧ (64 : Byte).toNat ≤ (onBus [.err]).cfg.maxXfer ∧
      (0xC0 : Byte).toNat + (64 : Byte).toNat ≤ 256 ∧ (onBus [.err]).readAnswer 0xC0 (64 : Byte).toNat = some .err := by decide

theorem witness_DeccoordDecodesBuffer :
    (withRx [255, 255, 255, 255, 255, 0x4E] State.reset).status.ready = true ∧
      (withRx [255, 255, 255, 255, 255, 0x4E] State.reset).rxbuf.take 6 =
        [.of 255, .of 255, .of 255, .of 255, .of 255, .of 0x4E] := by decide

theorem witness_DectripleDecodesBuffer :
    (withRx [255, 255, 255] State.reset).status.ready = true ∧
      (withRx [255, 255, 255] State.reset).rxbuf.take 3 = [.of 255, .of 255, .of 255] := by decide

/-- The last cell that each decoder reads. -/
theorem witness_DecoderOfMissingValueRecordsNoValue :
    (withRx [1, 2, 3, 4, 5] State.reset).status.ready = true ∧
      (cellAt (withRx [1, 2, 3, 4, 5] State.reset).rxbuf 5).valid = false ∧
      (withRx [1, 2] State.reset).status.ready = true ∧ (cellAt (withRx [1, 2] State.reset).rxbuf 2).valid = false := by decide

/-- Both ends of the accepted modes, and a bus and a simulated device that answer and that fail. -/
theorem witness_ControlCommandsWriteAndSettle :
    1 ≤ (1 : Byte).toNat ∧ (1 : Byte).toNat ≤ 7 ∧ 1 ≤ (7 : Byte).toNat ∧ (7 : Byte).toNat ≤ 7 ∧
      (onBus [.ok []]).status.ready = true ∧ (onBus [.ok []]).writeAnswer = some .ok ∧
      (onBus [.err]).status.ready = true ∧ (onBus [.err]).writeAnswer = some .err ∧
      (onDevice [] []).status.ready = true ∧ (onDevice [] []).writeAnswer = some .ok ∧
      (onDevice [] [1]).status.ready = true ∧ (onDevice [] [1]).writeAnswer = some .err := by decide

theorem witness_SetmodeRejectsOtherModes :
    State.reset.status.ready = true ∧ ((0 : Byte).toNat < 1 ∨ 7 < (0 : Byte).toNat) ∧
      ((8 : Byte).toNat < 1 ∨ 7 < (8 : Byte).toNat) ∧ ((255 : Byte).toNat < 1 ∨ 7 < (255 : Byte).toNat) := by decide

theorem witness_CountQueriesReturnTheByte :
    (onBus [.ok [255]]).status.ready = true ∧ (onBus [.ok [255]]).readAnswer 0x22 1 = some (.ok [255]) ∧
      (onBus [.ok [255]]).readAnswer 0x13 1 = some (.ok [255]) := by decide

theorem witness_GetdateReturnsDate :
    (onBus [.ok [8, 51, 12, 28]]).status.ready = true ∧
      (onBus [.ok [8, 51, 12, 28]]).readAnswer 0x00 4 = some (.ok [8, 51, 12, 28]) := by decide

theorem witness_GettimeReturnsTime :
    (onBus [.ok [23, 59, 59]]).status.ready = true ∧
      (onBus [.ok [23, 59, 59]]).readAnswer 0x04 3 = some (.ok [23, 59, 59]) := by decide

theorem witness_CoordinateQueriesDecode :
    (onBus [.ok [12, 34, 0, 0, 0, 0x4E]]).status.ready = true ∧
      (onBus [.ok [12, 34, 0, 0, 0, 0x4E]]).readAnswer 0x07 6 = some (.ok [12, 34, 0, 0, 0, 0x4E]) ∧
      (onBus [.ok [12, 34, 0, 0, 0, 0x4E]]).readAnswer 0x0D 6 = some (.ok [12, 34, 0, 0, 0, 0x4E]) := by decide

theorem witness_TripleQueriesDecode :
    (onBus [.ok [1, 44, 50]]).status.ready = true ∧
      (onBus [.ok [1, 44, 50]]).readAnswer 0x14 3 = some (.ok [1, 44, 50]) ∧
      (onBus [.ok [1, 44, 50]]).readAnswer 0x1A 3 = some (.ok [1, 44, 50]) ∧
      (onBus [.ok [1, 44, 50]]).readAnswer 0x17 3 = some (.ok [1, 44, 50]) := by decide

theorem witness_FailedQueriesWriteDefaults :
    (onBus [.err]).status.ready = true ∧ (onBus [.err]).readAnswer 0x22 1 = some .err ∧
      (onBus [.err]).readAnswer 0x13 1 = some .err ∧ (onBus [.err]).readAnswer 0x00 4 = some .err ∧
      (onBus [.err]).readAnswer 0x04 3 = some .err ∧ (onBus [.err]).readAnswer 0x07 6 = some .err ∧
      (onBus [.err]).readAnswer 0x0D 6 = some .err ∧ (onBus [.err]).readAnswer 0x14 3 = some .err ∧
      (onBus [.err]).readAnswer 0x1A 3 = some .err ∧ (onBus [.err]).readAnswer 0x17 3 = some .err := by decide

/-- A command with none of the three kinds of result, and one cell past those it writes. -/
theorem witness_CommandsWriteOnlyTheirRegisters :
    exec (.rdreg 0x00 1) (onBus [.ok [9]]) = .next (after (.rdreg 0x00 1) (onBus [.ok [9]])) ∧
      (Instr.rdreg 0x00 1).writesRational = false ∧ (Instr.rdreg 0x00 1).writesLetter = false ∧
      (Instr.rdreg 0x00 1).writesFields = false ∧ (Instr.rdreg 0x00 1).rxCellsWritten ≤ 1 :=
  ⟨rfl, by decide⟩

theorem witness_AtMostOneTransactionPerCommand : exec .pwron (onBus [.ok []]) = .next (after .pwron (onBus [.ok []])) :=
  rfl

/-- A command that sets SETTLE_OWED, and one that runs while it is set. -/
theorem witness_OnlyWrregChangesSettleOwed :
    exec (.wrreg 0x24 1) (withTx [5] (onBus [.ok []])) = .next (after (.wrreg 0x24 1) (withTx [5] (onBus [.ok []]))) ∧
      (after (.wrreg 0x24 1) (withTx [5] (onBus [.ok []]))).settleOwed ≠ (withTx [5] (onBus [.ok []])).settleOwed ∧
      ((onBus [.ok [1]]).setSettleOwed true).settleOwed = true ∧
      exec .getsats ((onBus [.ok [1]]).setSettleOwed true) = .next (after .getsats ((onBus [.ok [1]]).setSettleOwed true)) :=
  ⟨rfl, by decide, rfl, rfl⟩

/-- A hazard recorded, its cause being an early transaction. -/
theorem witness_SettleHazardRecordedExactlyOnEarlyTransaction :
    exec .getsats ((onBus [.ok [1]]).setSettleOwed true) =
        .next (after .getsats ((onBus [.ok [1]]).setSettleOwed true)) ∧
      (after .getsats ((onBus [.ok [1]]).setSettleOwed true)).modelFaults.settleHazard = true :=
  ⟨rfl, rfl⟩

theorem witness_SilentBusLeavesCommandBusy :
    (withTx [5] (onBus [.never])).status.ready = true ∧ (withTx [5] (onBus [.never])).cfg.simDevice = false ∧
      (withTx [5] (onBus [.never])).nextReply = .never ∧ Instr.getlat.isAccessor = true ∧
      (Instr.setmode 1).isAccessor = true ∧ 1 ≤ (1 : Byte).toNat ∧
      (1 : Byte).toNat ≤ (withTx [5] (onBus [.never])).cfg.maxXfer ∧ (0xFF : Byte).toNat + (1 : Byte).toNat ≤ 256 ∧
      (∀ k, k < (1 : Byte).toNat → (cellAt (withTx [5] (onBus [.never])).txbuf k).valid = true) := by decide

theorem witness_AccessorsIgnoreTheBuffers :
    Instr.getalt.isAccessor = true ∧ exec .getalt (onBus [.ok [1, 44, 50]]) = .next (after .getalt (onBus [.ok [1, 44, 50]])) :=
  ⟨rfl, rfl⟩

/-- A transaction that the schedule names, and one that it does not. -/
theorem witness_SimulatedDeviceAnswers :
    (onDevice [] [1]).cfg.simDevice = true ∧ (onDevice [] [1]).txns + 1 ∈ (onDevice [] [1]).cfg.failures ∧
      (onDevice [(7, 12)] [2]).cfg.simDevice = true ∧
      (onDevice [(7, 12)] [2]).txns + 1 ∉ (onDevice [(7, 12)] [2]).cfg.failures := by decide

theorem witness_SetmodeThenGetmodeReturnsMode :
    (onDevice [] [3]).status.ready = true ∧ (onDevice [] [3]).cfg.simDevice = true ∧
      (onDevice [] [3]).txns + 1 ∉ (onDevice [] [3]).cfg.failures ∧
      (onDevice [] [3]).txns + 2 ∉ (onDevice [] [3]).cfg.failures ∧ 1 ≤ (7 : Byte).toNat ∧ (7 : Byte).toNat ≤ 7 := by decide

/-- V5's last case. -/
theorem witness_DateRoundTrip :
    (withTx [0x08, 0x33, 12, 28] (onDevice [] [])).status.ready = true ∧
      (withTx [0x08, 0x33, 12, 28] (onDevice [] [])).cfg.legal = true ∧
      (withTx [0x08, 0x33, 12, 28] (onDevice [] [])).cfg.simDevice = true ∧
      (withTx [0x08, 0x33, 12, 28] (onDevice [] [])).txns + 1 ∉ (onDevice [] []).cfg.failures ∧
      (withTx [0x08, 0x33, 12, 28] (onDevice [] [])).txns + 2 ∉ (onDevice [] []).cfg.failures ∧ 2099 < 65536 ∧
      (withTx [0x08, 0x33, 12, 28] (onDevice [] [])).txbuf.take 4 =
        [.of (BitVec.ofNat 8 (2099 / 256)), .of (BitVec.ofNat 8 (2099 % 256)), .of 12, .of 28] := by decide

/-- The longest payload and the shorter one; `witness_buffersSized` is the rest. -/
theorem witness_RawPathAgreesWithAccessors :
    (onBus [.ok [12, 34, 0, 0, 0, 0x4E]]).status.ready = true ∧ (onBus [.ok [12, 34, 0, 0, 0, 0x4E]]).cfg.legal = true ∧
      (onBus [.ok [12, 34, 0, 0, 0, 0x4E]]).readAnswer 0x07 (6 : Byte).toNat = some (.ok [12, 34, 0, 0, 0, 0x4E]) ∧
      (onBus [.ok [1, 44, 50]]).readAnswer 0x14 (3 : Byte).toNat = some (.ok [1, 44, 50]) := by decide

/-- The last cell of each buffer and the reserved offsets beside them, for MAX_XFER = 64. -/
theorem witness_WindowMap :
    (63 < 64 ∧ (64 : Nat) ≤ 64 + 63) ∧ (9 ≤ 63 ∧ (4 * 63 < 0x100 ∨ 0x100 + 4 * 64 ≤ 4 * 63)) ∧
      (4 * 192 < 0x100 ∨ 0x100 + 4 * 64 ≤ 4 * 192) ∧ (4 * 192 < 0x200 ∨ 0x200 + 4 * 64 ≤ 4 * 192) := by decide

/-- The three registers that answer while BUSY, and reserved offsets of an idle block. -/
theorem witness_ReadableRegistersAnswerAnyTime :
    (withTurns [loadTurn 0x004] (issued 0x29000000 State.reset)).agenda = [.host (.read 0x004 4)] ∧
      windowRegister 64 0x000 = .cmd ∧ windowRegister 64 0x004 = .status ∧ windowRegister 64 0x020 = .devAddr ∧
      (withTurns [loadTurn 0x024] State.reset).agenda = [.host (.read 0x024 4)] ∧
      windowRegister 64 0x024 = .reserved ∧ windowRegister 64 0x300 = .reserved ∧
      (withTurns [loadTurn 0x024] State.reset).status.busy = false := by decide

/-- A numerator, a buffer cell and a date field that hold values. -/
theorem witness_IdleReadsGiveValues :
    (withTurns [loadTurn 0x200] (withRx [9] State.reset)).status.busy = false ∧
      (withTurns [loadTurn 0x200] (withRx [9] State.reset)).agenda = [.host (.read 0x200 4)] ∧ 0x200 % 4 = 0 ∧
      windowRegister 64 0x200 = .rx 0 ∧ cellAt (withRx [9] State.reset).rxbuf 0 = .of 9 ∧
      windowRegister 64 0x008 = .resNum ∧ (State.reset.setRational 7 1).resNum = .of 7 ∧
      windowRegister 64 0x014 = .resF0 ∧ (State.reset.setFields 2024 12 28).resF0 = .of 2024 := by decide

/-- A result register and the last buffer cell that hold none. -/
theorem witness_ReadOfMissingValueRecordsNoValue :
    (withTurns [loadTurn 0x008] State.reset).status.busy = false ∧
      (withTurns [loadTurn 0x008] State.reset).agenda = [.host (.read 0x008 4)] ∧ 0x008 % 4 = 0 ∧
      windowRegister 64 0x008 = .resNum ∧ State.reset.resNum.valid = false ∧
      windowRegister 64 0x2FC = .rx 63 ∧ (cellAt State.reset.rxbuf 63).valid = false := by decide

/-- The first and the last cell of the buffers. -/
theorem witness_BufferWritesStoreOneCell :
    (withTurns [storeTurn 0x1FC 5] State.reset).status.busy = false ∧
      (withTurns [storeTurn 0x1FC 5] State.reset).agenda = [.host (.write 0x1FC 4 5)] ∧ 0x1FC % 4 = 0 ∧
      63 < State.reset.cfg.maxXfer ∧ windowRegister State.reset.cfg.maxXfer 0x1FC = .tx 63 ∧
      windowRegister State.reset.cfg.maxXfer 0x200 = .rx 0 := by decide

theorem witness_ReadOnlyWritesIgnored :
    (withTurns [storeTurn 0x004 5] State.reset).status.busy = false ∧
      (withTurns [storeTurn 0x004 5] State.reset).agenda = [.host (.write 0x004 4 5)] ∧ 0x004 % 4 = 0 ∧
      windowRegister State.reset.cfg.maxXfer 0x004 = .status ∧ windowRegister State.reset.cfg.maxXfer 0x300 = .reserved := by
  decide

/-- A write and a read while BUSY. -/
theorem witness_BusyAccessRecordsHostWhileBusy :
    (withTurns [storeTurn 0x000 5] (issued 0x29000000 State.reset)).status.busy = true ∧
      (withTurns [storeTurn 0x000 5] (issued 0x29000000 State.reset)).agenda = [.host (.write 0x000 4 5)] ∧
      windowRegister State.reset.cfg.maxXfer 0x000 = .cmd ∧
      (withTurns [loadTurn 0x2FC] (issued 0x29000000 State.reset)).status.busy = true ∧
      (withTurns [loadTurn 0x2FC] (issued 0x29000000 State.reset)).agenda = [.host (.read 0x2FC 4)] ∧
      windowRegister State.reset.cfg.maxXfer 0x2FC = .rx 63 := by decide

/-- A narrow access at an aligned offset, and a whole one at an odd offset. -/
theorem witness_MisalignedAccessRecorded :
    ((2 : Nat) ≠ 4 ∨ 0x004 % 4 ≠ 0) ∧ (withTurns [.host (.read 0x004 2)] State.reset).agenda = [.host (.read 0x004 2)] ∧
      ((4 : Nat) ≠ 4 ∨ 0x103 % 4 ≠ 0) ∧
      (withTurns [.host (.write 0x103 4 5)] State.reset).agenda = [.host (.write 0x103 4 5)] := by decide

/-- A delay just too short and one just long enough. -/
theorem witness_DelayClearsSettleOwed :
    (withTurns [delayTurn 99] State.reset).agenda = [.host (.delay 99)] ∧
      (withTurns [delayTurn 100] State.reset).agenda = [.host (.delay 100)] := by decide

theorem witness_ResetOfIdleBlock :
    (withTurns [.reset false] State.reset).status.busy = false ∧
      (withTurns [.reset false] State.reset).agenda = [.reset false] := by decide

/-- A write in flight, a read in flight, and none for a decoder and for a WRREG without payload. -/
theorem witness_ResetWhileBusyAbandonsCommand :
    (withTurns [.reset true] (issued 0x22000000 State.reset)).status.busy = true ∧
      (withTurns [.reset true] (issued 0x22000000 State.reset)).agenda = [.reset true] ∧
      inFlight (withTurns [.reset true] (issued 0x22000000 State.reset)) = some (.write 0x23 1) ∧
      inFlight (withTurns [.reset true] (issued 0x29000000 State.reset)) = some (.read 0x07 6) ∧
      inFlight (withTurns [.reset true] (issued 0x10000000 State.reset)) = none ∧
      inFlight (withTurns [.reset true] (issued 0x01220100 State.reset)) = none := by decide

theorem witness_statusLegal : (issued 0x22000000 State.reset).statusLegal := by
  unfold State.statusLegal
  decide

theorem witness_StepsKeepStatusLegal :
    step (issued 0x22000000 State.reset) = .next (nextOf (step (issued 0x22000000 State.reset))) ∧
      step (issued 0x20000900 State.reset) = .next (nextOf (step (issued 0x20000900 State.reset))) := ⟨rfl, rfl⟩

/-- A block that holds a triple meets the invariant, and its next step has a next state. -/
theorem witness_StepsKeepRationalLegal : (State.reset.setRational 6553755 100).rationalLegal ∧
    step (State.reset.setRational 6553755 100) = .next (nextOf (step (State.reset.setRational 6553755 100))) :=
  ⟨⟨fun _ => .inr (.inl rfl), fun _ => ⟨rfl, .inr (.inl ⟨rfl, by decide⟩)⟩⟩, rfl⟩

theorem witness_StepsKeepSizesAndAddress : (onBus [.ok []]).buffersSized ∧ (onBus [.ok []]).addressFixed ∧
    step (onBus [.ok []]) = .next (nextOf (step (onBus [.ok []]))) := ⟨⟨rfl, rfl⟩, rfl, rfl⟩

theorem witness_StepsKeepDeviceCanonical : (onDevice [(0, 1), (255, 2)] []).deviceCanonical ∧
    step (onDevice [(0, 1), (255, 2)] []) = .next (nextOf (step (onDevice [(0, 1), (255, 2)] []))) := ⟨rfl, rfl⟩

theorem witness_ModelFaultsAreNeverCleared :
    step (withTurns [.reset true] (State.reset.setModelFaults ⟨true, true, true, true⟩)) =
      .next (nextOf (step (withTurns [.reset true] (State.reset.setModelFaults ⟨true, true, true, true⟩)))) := rfl

/-- Operands at both ends of the assembler's range, and a mnemonic it does not know. -/
theorem witness_AssemblerEmitsCommandWords :
    ((0 : Nat) ≤ 255 ∧ (255 : Nat) ≤ 255 ∧ (255 : Nat) < 256) ∧ "nop" ∉ ["wrreg", "rdreg", "setmode", ".word"] ∧
      (∀ p ∈ plainCommands, "nop" ≠ p.1) ∧ ("getsog", Instr.getsog) ∈ plainCommands := by decide

/-- A write to a read-only register, and reads of a reserved offset and of a result register. -/
theorem witness_BusyAllowsOnlyItsReads :
    (withTurns [storeTurn 0x004 5] (issued 0x29000000 State.reset)).status.busy = true ∧ 0x004 % 4 = 0 ∧
      (withTurns [storeTurn 0x004 5] (issued 0x29000000 State.reset)).agenda = [.host (.write 0x004 4 5)] ∧
      (withTurns [loadTurn 0x024] (issued 0x29000000 State.reset)).status.busy = true ∧ 0x024 % 4 = 0 ∧
      (withTurns [loadTurn 0x024] (issued 0x29000000 State.reset)).agenda = [.host (.read 0x024 4)] ∧
      windowRegister State.reset.cfg.maxXfer 0x024 = .reserved ∧ windowRegister State.reset.cfg.maxXfer 0x008 = .resNum := by
  decide

/-- Each clause: a host at `wait`, an engine turn and no turn, while IDLE. -/
theorem witness_IdleWaitReadsStatusAndIdleEngineRests :
    (withTurns [.host .wait] State.reset).status.busy = false ∧ (withTurns [.host .wait] State.reset).agenda = [.host .wait] ∧
      (withTurns [.engine] State.reset).status.busy = false ∧ (withTurns [.engine] State.reset).agenda = [.engine] ∧
      State.reset.status.busy = false ∧ State.reset.agenda = [] := by decide

end Sys2Proof.Tests
end

section
/-! The host's turn while IDLE (R33): a whole window access reaches the register it names, and a read of ⊥ is recorded
(R11, R218). -/

namespace Sys2Proof.Machine

/-- While IDLE a pending host action is the step (R4, R33). -/
theorem step_host_of_idle {s : State} {a : HostAction} {rest : List Turn} (hidle : s.status.busy = false)
    (hturn : s.agenda = .host a :: rest) : step s = .next (hostAction a (s.setAgenda rest)) := by
  simp [step, nextTurn, hturn, hidle, takeTurn]

/-- While IDLE a whole window read is performed (R32, R84). -/
theorem hostRead_of_idle {s : State} {offset : Nat} (hidle : s.status.busy = false) (haligned : offset % 4 = 0) :
    hostRead offset 4 s = readRegister (windowRegister s.cfg.maxXfer offset) s := by
  simp [hostRead, wholeAccess, hidle, haligned]

/-- The read of a slot that holds ⊥ adds NoValue and gives no value (R218). -/
theorem readSlot_of_invalid {w : Nat} {slot : Slot w} (s : State) (hslot : slot.valid = false) :
    readSlot slot s = { s with modelFaults := { s.modelFaults with noValue := true } } := by
  simp [readSlot, hslot, State.requireValue, State.setModelFaults, ModelFaults.missing]

/-- The register that `r` names can hold ⊥ and does (R11). -/
def State.holdsNoValue (s : State) (r : WindowRegister) : Prop :=
  (r = .resNum ∧ s.resNum.valid = false) ∨ (r = .resDen ∧ s.resDen.valid = false) ∨
    (r = .resChr ∧ s.resChr.valid = false) ∨ (r = .resF0 ∧ s.resF0.valid = false) ∨
    (r = .resF1 ∧ s.resF1.valid = false) ∨ (r = .resF2 ∧ s.resF2.valid = false) ∨
    (∃ i, r = .tx i ∧ (cellAt s.txbuf i).valid = false) ∨ ∃ i, r = .rx i ∧ (cellAt s.rxbuf i).valid = false

/-- The read of any register or cell that holds ⊥ adds NoValue alone (R218). -/
theorem readRegister_of_holdsNoValue {s : State} {r : WindowRegister} (h : s.holdsNoValue r) :
    readRegister r s = { s with modelFaults := { s.modelFaults with noValue := true } } := by
  obtain ⟨rfl, hv⟩ | ⟨rfl, hv⟩ | ⟨rfl, hv⟩ | ⟨rfl, hv⟩ | ⟨rfl, hv⟩ | ⟨rfl, hv⟩ | ⟨i, rfl, hv⟩ | ⟨i, rfl, hv⟩ := h
  all_goals exact readSlot_of_invalid s hv

/-- Settles O43: the host's turn is the step, the access is whole, and each register's read is the read of its slot. -/
theorem readOfMissingValueRecordsNoValue : Obligations.ReadOfMissingValueRecordsNoValue := by
  intro s rest offset r hidle hturn haligned hr hnone
  have hidle' : (s.setAgenda rest).status.busy = false := hidle
  have hread : hostRead offset 4 (s.setAgenda rest) = readRegister r (s.setAgenda rest) := by
    rw [hostRead_of_idle hidle' haligned, State.setAgenda_cfg, hr]
  have hnone' : (s.setAgenda rest).holdsNoValue r := hnone
  calc step s = .next (hostRead offset 4 (s.setAgenda rest)) := step_host_of_idle hidle hturn
    _ = _ := by rw [hread, readRegister_of_holdsNoValue hnone']; rfl

end Sys2Proof.Machine
end

section
/-! What never changes size or value outside block reset: the parameters (R8), DEV_ADDR (R48) and the lengths of TXBUF and
RXBUF (R49, R50). -/

namespace Sys2Proof.Machine

/-- `t` has the parameters, DEV_ADDR and the buffer lengths of `s`. -/
structure SizesKept (s t : State) : Prop where
  cfg : t.cfg = s.cfg
  devAddr : t.devAddr = s.devAddr
  txbufLength : t.txbuf.length = s.txbuf.length
  rxbufLength : t.rxbuf.length = s.rxbuf.length

theorem SizesKept.refl (s : State) : SizesKept s s := ⟨rfl, rfl, rfl, rfl⟩

theorem SizesKept.trans {s t u : State} (hst : SizesKept s t) (htu : SizesKept t u) : SizesKept s u :=
  ⟨htu.cfg.trans hst.cfg, htu.devAddr.trans hst.devAddr, htu.txbufLength.trans hst.txbufLength,
    htu.rxbufLength.trans hst.rxbufLength⟩

/-- A state that keeps sizes and address keeps the invariants stated of them. -/
theorem SizesKept.carries {s t : State} (h : SizesKept s t) (hsized : s.buffersSized) (hfixed : s.addressFixed) :
    t.buffersSized ∧ t.addressFixed ∧ t.cfg = s.cfg := by
  obtain ⟨hcfg, haddr, htx, hrx⟩ := h
  obtain ⟨hstx, hsrx⟩ := hsized
  refine ⟨⟨?_, ?_⟩, ?_, hcfg⟩
  · rw [htx, hstx, hcfg]
  · rw [hrx, hsrx, hcfg]
  · exact haddr.trans (hfixed.trans (congrArg Config.devAddr hcfg.symm))

/-! ### The operations that commands share -/

theorem sizesKept_setStatus (st : Status) (s : State) : SizesKept s (s.setStatus st) := ⟨rfl, rfl, rfl, rfl⟩

theorem sizesKept_setAgenda (a : List Turn) (s : State) : SizesKept s (s.setAgenda a) := ⟨rfl, rfl, rfl, rfl⟩

theorem sizesKept_setSettleOwed (owed : Bool) (s : State) : SizesKept s (s.setSettleOwed owed) := ⟨rfl, rfl, rfl, rfl⟩

theorem sizesKept_log (e : Event) (s : State) : SizesKept s (s.log e) := ⟨rfl, rfl, rfl, rfl⟩

theorem sizesKept_setRxbuf {cells : List (Slot 8)} {s : State} (hlength : cells.length = s.rxbuf.length) :
    SizesKept s (s.setRxbuf cells) := ⟨rfl, rfl, rfl, hlength⟩

/-- One read transaction, as `memRead_eq` gives it. -/
theorem sizesKept_readTransaction (e : Event) (n : Nat) (s : State) :
    SizesKept s (State.log e (s.startTransaction.countTransaction n)) := ⟨rfl, rfl, rfl, rfl⟩

/-- One write transaction, as `memWrite_eq` gives it. -/
theorem sizesKept_writeTransaction (e : Event) (m : Memory) (n : Nat) (s : State) :
    SizesKept s (State.log e ((s.startTransaction.setDevice m).countTransaction n)) := ⟨rfl, rfl, rfl, rfl⟩

theorem sizesKept_noteWrite (r : WriteResult) (s : State) : SizesKept s (noteWrite r s) := by
  cases r with
  | ok => exact .refl s
  | err => exact sizesKept_setStatus _ s

/-- A query keeps sizes and address when the writers of its result do (R180, R181). -/
theorem sizesKept_query {reg : Byte} {n : Nat} {decoded : List Byte → State → State} {dflt : State → State} {s t : State}
    (h : query reg n decoded dflt s = some t) (hdecoded : ∀ bytes u, SizesKept u (decoded bytes u))
    (hdflt : ∀ u, SizesKept u (dflt u)) : SizesKept s t := by
  obtain ⟨bytes, -, rfl⟩ | ⟨-, rfl⟩ := query_cases h
  · exact (sizesKept_readTransaction _ n s).trans (hdecoded bytes _)
  · exact ((sizesKept_readTransaction _ n s).trans (hdflt _)).trans (sizesKept_setStatus _ _)

theorem sizesKept_controlWrite {reg value : Byte} {s t : State} (h : controlWrite reg value s = some t) :
    SizesKept s t := by
  obtain ⟨r, -, rfl⟩ := controlWrite_cases h
  exact ((sizesKept_writeTransaction _ _ 1 s).trans (sizesKept_noteWrite r _)).trans (sizesKept_log _ _)

theorem sizesKept_rawWrite {reg len : Byte} {s t : State} (h : rawWrite reg len s = some t) : SizesKept s t := by
  obtain ⟨-, rfl⟩ | ⟨-, r, u, -, rfl, rfl⟩ := rawWrite_cases h
  · exact ⟨rfl, rfl, rfl, rfl⟩
  · exact ((sizesKept_writeTransaction _ _ _ s).trans (sizesKept_setSettleOwed _ _)).trans (sizesKept_noteWrite r _)

/-- RDREG lays cells over RXBUF, whose length stays (R131). -/
theorem sizesKept_rawRead {reg len : Byte} {s t : State} (h : rawRead reg len s = some t) : SizesKept s t := by
  obtain ⟨bytes, -, rfl⟩ | ⟨-, rfl⟩ := rawRead_cases h
  · exact (sizesKept_readTransaction _ _ s).trans (sizesKept_setRxbuf (length_overlay _ _))
  · exact ((sizesKept_readTransaction _ _ s).trans (sizesKept_setRxbuf (length_overlay _ _))).trans
      (sizesKept_setStatus _ _)

/-! ### Every kind of turn but reset -/

/-- No command's body resizes a buffer or writes DEV_ADDR. -/
theorem BodyResult.sizesKept {i : Instr} {p t : State} (h : BodyResult i p t) : SizesKept p t := by
  cases h with
  | fault => exact sizesKept_setStatus _ p
  | wrreg _ _ _ _ _ body => exact sizesKept_rawWrite body
  | rdreg _ _ _ _ _ body => exact sizesKept_rawRead body
  | deccoord => exact ⟨rfl, rfl, rfl, rfl⟩
  | dectriple => exact ⟨rfl, rfl, rfl, rfl⟩
  | rejected => exact sizesKept_setStatus _ p
  | control _ _ _ _ _ _ body => exact sizesKept_controlWrite body
  | count _ _ _ _ _ body
  | date _ _ body
  | time _ _ body
  | coordinate _ _ _ _ _ _ body
  | triple _ _ _ _ _ body =>
    exact sizesKept_query body (fun _ _ => ⟨rfl, rfl, rfl, rfl⟩) (fun _ => ⟨rfl, rfl, rfl, rfl⟩)

/-- The command frame writes STATUS alone besides its body (R110, R111). -/
theorem sizesKept_executed {body : State → Option State} (hbody : ∀ p u, body p = some u → SizesKept p u) (s : State) :
    SizesKept s (executed body s) := by
  obtain ⟨-, h⟩ | ⟨-, -, h⟩ | ⟨-, u, hu, h⟩ := executed_cases body s <;> rw [h]
  · exact sizesKept_setStatus _ s
  · exact .refl s
  · exact ((sizesKept_setStatus _ s).trans (hbody _ u hu)).trans (sizesKept_setStatus _ u)

theorem sizesKept_exec {i : Instr} {s t : State} (h : exec i s = .next t) : SizesKept s t := by
  obtain rfl : executed (bodyOf i) s = t := by simpa [exec_eq_command, command] using h
  exact sizesKept_executed (fun _ _ hu => (bodyOf_cases hu).sizesKept) s

theorem sizesKept_rejectCommand {c : Cause} {s t : State} (h : rejectCommand c s = .next t) : SizesKept s t := by
  obtain rfl : executed (fun p => some (raiseFault c p)) s = t := by simpa [rejectCommand, command] using h
  refine sizesKept_executed (fun p u hu => ?_) s
  obtain rfl : raiseFault c p = u := by simpa using hu
  exact sizesKept_setStatus _ p

theorem HostFrame.sizesKept {s t : State} (h : HostFrame s t) : SizesKept s t :=
  ⟨h.cfg, h.devAddr, h.txbufLength, h.rxbufLength⟩

theorem TurnStart.sizesKept {s u : State} (h : TurnStart s u) : SizesKept s u := by
  obtain rfl | ⟨rest, rfl⟩ := h
  · exact .refl u
  · exact sizesKept_setAgenda rest s

/-! ### Block reset -/

/-- Block reset loads DEV_ADDR and sizes the buffers from the parameters, whatever it finds (R57, R240). -/
theorem blockReset_sizes (initOk : Bool) (s : State) :
    (blockReset initOk s).buffersSized ∧ (blockReset initOk s).addressFixed ∧ (blockReset initOk s).cfg = s.cfg :=
  ⟨⟨List.length_replicate, List.length_replicate⟩, rfl, rfl⟩

/-- Settles O55: a reset makes sizes and address anew, and every other step keeps them. -/
theorem stepsKeepSizesAndAddress : Obligations.StepsKeepSizesAndAddress := by
  intro s t hsized hfixed hstep
  obtain ⟨a, u, hu, rfl⟩ | ⟨initOk, rest, rfl⟩ | ht | ⟨u, i, hu, -, hexec⟩ | ⟨u, c, hu, -, hreject⟩ := step_cases hstep
  · exact (hu.sizesKept.trans (hostAction_frame a u).sizesKept).carries hsized hfixed
  · exact blockReset_sizes initOk (s.setAgenda rest)
  · exact ht.sizesKept.carries hsized hfixed
  · exact (hu.sizesKept.trans (sizesKept_exec hexec)).carries hsized hfixed
  · exact (hu.sizesKept.trans (sizesKept_rejectCommand hreject)).carries hsized hfixed

end Sys2Proof.Machine
end

section
/-! What a command may do to the state besides its transaction: the registers its rule names (R51), SETTLE_OWED (R53), a legal
rational (R44), and a model fault record that only grows (R235). One rule for each operation that commands share, then every
body, then the command frame. -/

namespace Sys2Proof.Machine

theorem within_trans {f g h : ModelFaults} (hfg : f.within g) (hgh : g.within h) : f.within h := by
  obtain ⟨hsettle, hbusy, hvalue, haligned⟩ := hfg
  obtain ⟨gsettle, gbusy, gvalue, galigned⟩ := hgh
  exact ⟨gsettle ∘ hsettle, gbusy ∘ hbusy, gvalue ∘ hvalue, galigned ∘ haligned⟩

theorem CommandFrame.refl (s : State) : CommandFrame s s := ⟨rfl, rfl, rfl, rfl, rfl, rfl⟩

theorem CommandFrame.trans {s t u : State} (hst : CommandFrame s t) (htu : CommandFrame t u) : CommandFrame s u where
  cfg := htu.cfg.trans hst.cfg
  cmd := htu.cmd.trans hst.cmd
  devAddr := htu.devAddr.trans hst.devAddr
  txbuf := htu.txbuf.trans hst.txbuf
  agenda := htu.agenda.trans hst.agenda
  replies := htu.replies.trans hst.replies

theorem SameRational.trans {s t u : State} (hst : SameRational s t) (htu : SameRational t u) : SameRational s u :=
  ⟨htu.1.trans hst.1, htu.2.trans hst.2⟩

theorem SameFields.trans {s t u : State} (hst : SameFields s t) (htu : SameFields t u) : SameFields s u := by
  obtain ⟨hf0, hf1, hf2⟩ := hst
  obtain ⟨gf0, gf1, gf2⟩ := htu
  exact ⟨gf0.trans hf0, gf1.trans hf1, gf2.trans hf2⟩

/-- What every operation of a command keeps: the command frame and READY (R37), with a record that only grows (R235). -/
structure CommandBase (s t : State) : Prop where
  frame : CommandFrame s t
  ready : t.status.ready = s.status.ready
  recorded : s.modelFaults.within t.modelFaults

theorem CommandBase.trans {s t u : State} (hst : CommandBase s t) (htu : CommandBase t u) : CommandBase s u :=
  ⟨hst.frame.trans htu.frame, htu.ready.trans hst.ready, within_trans hst.recorded htu.recorded⟩

/-- `t` is a state that command `i` may leave from `s` (R44, R51, R53). -/
structure CommandEffect (i : Instr) (s t : State) : Prop where
  base : CommandBase s t
  rational : i.writesRational = false → SameRational s t
  letter : i.writesLetter = false → t.resChr = s.resChr
  fields : i.writesFields = false → SameFields s t
  cells : ∀ k, i.rxCellsWritten ≤ k → cellAt t.rxbuf k = cellAt s.rxbuf k
  owedKept : s.settleOwed = true → t.settleOwed = true
  owedBy : t.settleOwed ≠ s.settleOwed → ∃ reg len, i = .wrreg reg len ∧ touchesControl reg len = true
  legal : s.rationalLegal → t.rationalLegal

theorem CommandEffect.trans {i : Instr} {s t u : State} (hst : CommandEffect i s t) (htu : CommandEffect i t u) :
    CommandEffect i s u where
  base := hst.base.trans htu.base
  rational hw := (hst.rational hw).trans (htu.rational hw)
  letter hw := (htu.letter hw).trans (hst.letter hw)
  fields hw := (hst.fields hw).trans (htu.fields hw)
  cells k hk := (htu.cells k hk).trans (hst.cells k hk)
  owedKept := htu.owedKept ∘ hst.owedKept
  owedBy hne := by
    by_cases h : u.settleOwed = t.settleOwed
    · exact hst.owedBy (h ▸ hne)
    · exact htu.owedBy h
  legal := htu.legal ∘ hst.legal

/-! ### The operations that commands share -/

section Operations
variable {i : Instr} {s t : State}

/-- An operation that writes no result register, no RXBUF cell and not SETTLE_OWED is open to every command. -/
theorem commandEffect_of_sameResults (base : CommandBase s t) (results : SameResults s t) (rxbuf : t.rxbuf = s.rxbuf)
    (owed : t.settleOwed = s.settleOwed) : CommandEffect i s t := by
  obtain ⟨⟨hnum, hden⟩, hchr, hfields⟩ := results
  exact ⟨base, fun _ => ⟨hnum, hden⟩, fun _ => hchr, fun _ => hfields, fun _ _ => by rw [rxbuf], owed.trans,
    fun hne => absurd owed hne, rationalLegal_congr hnum hden⟩

theorem CommandEffect.refl : CommandEffect i s s :=
  commandEffect_of_sameResults ⟨.refl s, rfl, within_refl _⟩ ⟨⟨rfl, rfl⟩, rfl, rfl, rfl, rfl⟩ rfl rfl

theorem commandEffect_setStatus {st : Status} (hready : st.ready = s.status.ready) : CommandEffect i s (s.setStatus st) :=
  commandEffect_of_sameResults ⟨⟨rfl, rfl, rfl, rfl, rfl, rfl⟩, hready, within_refl _⟩ ⟨⟨rfl, rfl⟩, rfl, rfl, rfl, rfl⟩ rfl rfl

theorem commandEffect_setModelFaults {f : ModelFaults} (hf : s.modelFaults.within f) :
    CommandEffect i s (s.setModelFaults f) :=
  commandEffect_of_sameResults ⟨⟨rfl, rfl, rfl, rfl, rfl, rfl⟩, rfl, hf⟩ ⟨⟨rfl, rfl⟩, rfl, rfl, rfl, rfl⟩ rfl rfl

theorem commandEffect_setDevice (m : Memory) : CommandEffect i s (s.setDevice m) :=
  commandEffect_of_sameResults ⟨⟨rfl, rfl, rfl, rfl, rfl, rfl⟩, rfl, within_refl _⟩ ⟨⟨rfl, rfl⟩, rfl, rfl, rfl, rfl⟩ rfl rfl

theorem commandEffect_countTransaction (n : Nat) : CommandEffect i s (s.countTransaction n) :=
  commandEffect_of_sameResults ⟨⟨rfl, rfl, rfl, rfl, rfl, rfl⟩, rfl, within_refl _⟩ ⟨⟨rfl, rfl⟩, rfl, rfl, rfl, rfl⟩ rfl rfl

theorem commandEffect_log (e : Event) : CommandEffect i s (s.log e) :=
  commandEffect_of_sameResults ⟨⟨rfl, rfl, rfl, rfl, rfl, rfl⟩, rfl, within_refl _⟩ ⟨⟨rfl, rfl⟩, rfl, rfl, rfl, rfl⟩ rfl rfl

theorem commandEffect_requireValue (valid : Bool) : CommandEffect i s (s.requireValue valid) :=
  commandEffect_setModelFaults (within_missing _ _)

theorem commandEffect_startTransaction : CommandEffect i s s.startTransaction :=
  commandEffect_setModelFaults (within_settling _ _)

/-- One read transaction, as `memRead_eq` gives it. -/
theorem commandEffect_readTransaction (e : Event) (n : Nat) :
    CommandEffect i s (State.log e (s.startTransaction.countTransaction n)) :=
  (commandEffect_startTransaction.trans (commandEffect_countTransaction n)).trans (commandEffect_log e)

/-- One write transaction, as `memWrite_eq` gives it. -/
theorem commandEffect_writeTransaction (e : Event) (m : Memory) (n : Nat) :
    CommandEffect i s (State.log e ((s.startTransaction.setDevice m).countTransaction n)) :=
  ((commandEffect_startTransaction.trans (commandEffect_setDevice m)).trans (commandEffect_countTransaction n)).trans
    (commandEffect_log e)

theorem commandEffect_noteWrite (r : WriteResult) : CommandEffect i s (noteWrite r s) := by
  cases r <;> exact commandEffect_setStatus rfl

/-- Only WRREG over a control register can set SETTLE_OWED (R130). -/
theorem commandEffect_setSettleOwed (reg len : Byte) :
    CommandEffect (.wrreg reg len) s (s.setSettleOwed (s.settleOwed || touchesControl reg len)) where
  base := ⟨⟨rfl, rfl, rfl, rfl, rfl, rfl⟩, rfl, within_refl _⟩
  rational _ := ⟨rfl, rfl⟩
  letter _ := rfl
  fields _ := ⟨rfl, rfl, rfl⟩
  cells _ _ := rfl
  owedKept h := by simp [h]
  owedBy hne := ⟨reg, len, rfl, by cases h : touchesControl reg len <;> simp [h] at hne ⊢⟩
  legal := rationalLegal_congr rfl rfl

/-- RDREG lays at most LEN cells over RXBUF (R131). -/
theorem commandEffect_setRxbuf {reg len : Byte} {new : List (Slot 8)} (hlength : new.length = len.toNat) :
    CommandEffect (.rdreg reg len) s (s.setRxbuf (overlay new s.rxbuf)) where
  base := ⟨⟨rfl, rfl, rfl, rfl, rfl, rfl⟩, rfl, within_refl _⟩
  rational _ := ⟨rfl, rfl⟩
  letter _ := rfl
  fields _ := ⟨rfl, rfl, rfl⟩
  cells k hk := cellAt_overlay_outside new s.rxbuf k (hlength.trans_le hk)
  owedKept := id
  owedBy hne := absurd rfl hne
  legal := rationalLegal_congr rfl rfl

/-- The writers of RES_NUM and RES_DEN may write a legal pair (R44). -/
theorem commandEffect_setRational (hi : i.writesRational = true) {num den : Nat}
    (legal : (s.setRational num den).rationalLegal) : CommandEffect i s (s.setRational num den) where
  base := ⟨⟨rfl, rfl, rfl, rfl, rfl, rfl⟩, rfl, within_refl _⟩
  rational hw := by simp [hi] at hw
  letter _ := rfl
  fields _ := ⟨rfl, rfl, rfl⟩
  cells _ _ := rfl
  owedKept := id
  owedBy hne := absurd rfl hne
  legal _ := legal

theorem commandEffect_knownNumber (hi : i.writesRational = true) (known : Bool) :
    CommandEffect i s (s.knownNumber known) where
  base := ⟨⟨rfl, rfl, rfl, rfl, rfl, rfl⟩, rfl, within_refl _⟩
  rational hw := by simp [hi] at hw
  letter _ := rfl
  fields _ := ⟨rfl, rfl, rfl⟩
  cells _ _ := rfl
  owedKept := id
  owedBy hne := absurd rfl hne
  legal := rationalLegal_knownNumber known

/-- An operation on RES_CHR alone is open to the writers of RES_CHR (R45, R51). -/
theorem commandEffect_of_letter (hi : i.writesLetter = true) (slot : Slot 8) :
    CommandEffect i s { s with resChr := slot } where
  base := ⟨⟨rfl, rfl, rfl, rfl, rfl, rfl⟩, rfl, within_refl _⟩
  rational _ := ⟨rfl, rfl⟩
  letter hw := by simp [hi] at hw
  fields _ := ⟨rfl, rfl, rfl⟩
  cells _ _ := rfl
  owedKept := id
  owedBy hne := absurd rfl hne
  legal := rationalLegal_congr rfl rfl

theorem commandEffect_setFields (hi : i.writesFields = true) (f0 : Nat) (f1 f2 : Byte) :
    CommandEffect i s (s.setFields f0 f1 f2) where
  base := ⟨⟨rfl, rfl, rfl, rfl, rfl, rfl⟩, rfl, within_refl _⟩
  rational _ := ⟨rfl, rfl⟩
  letter _ := rfl
  fields hw := by simp [hi] at hw
  cells _ _ := rfl
  owedKept := id
  owedBy hne := absurd rfl hne
  legal := rationalLegal_congr rfl rfl

/-- A coordinate's writers write a legal pair and RES_CHR (R142). -/
theorem commandEffect_writeCoordinate (hi : i.writesRational = true) (hletter : i.writesLetter = true) (b : List Byte) :
    CommandEffect i s (writeCoordinate b s) :=
  have hlegal : (s.setRational (coordinateNumerator b) coordinateDenominator).rationalLegal :=
    rationalLegal_congr rfl rfl (rationalLegal_writeCoordinate b s)
  (commandEffect_setRational hi hlegal).trans (commandEffect_of_letter hletter (.of (coordinateLetter b)))

theorem commandEffect_defaultCoordinate (hi : i.writesRational = true) (hletter : i.writesLetter = true) (letter : Byte) :
    CommandEffect i s (defaultCoordinate letter s) :=
  have hlegal : (s.setRational 0 coordinateDenominator).rationalLegal :=
    rationalLegal_congr rfl rfl (rationalLegal_defaultCoordinate letter s)
  (commandEffect_setRational hi hlegal).trans (commandEffect_of_letter hletter (.of letter))

end Operations

/-! ### Bodies -/

section Bodies
variable {i : Instr} {s t : State}

theorem commandEffect_controlWrite {reg value : Byte} (h : controlWrite reg value s = some t) : CommandEffect i s t := by
  obtain ⟨r, -, rfl⟩ := controlWrite_cases h
  exact ((commandEffect_writeTransaction _ _ 1).trans (commandEffect_noteWrite r)).trans (commandEffect_log _)

theorem commandEffect_rawWrite {reg len : Byte} (h : rawWrite reg len s = some t) :
    CommandEffect (.wrreg reg len) s t := by
  obtain ⟨-, rfl⟩ | ⟨-, r, u, -, rfl, rfl⟩ := rawWrite_cases h
  · exact commandEffect_requireValue false
  · exact ((commandEffect_writeTransaction _ _ _).trans (commandEffect_setSettleOwed reg len)).trans
      (commandEffect_noteWrite r)

theorem commandEffect_rawRead {reg len : Byte} (h : rawRead reg len s = some t) : CommandEffect (.rdreg reg len) s t := by
  obtain ⟨bytes, hread, rfl⟩ | ⟨-, rfl⟩ := rawRead_cases h
  · have hlength : (bytes.map Slot.of).length = len.toNat := by rw [List.length_map, readAnswer_length hread]
    exact (commandEffect_readTransaction _ _).trans (commandEffect_setRxbuf hlength)
  · have hlength : ((freeBytes s.draws len.toNat).map Slot.invalid).length = len.toNat := by
      rw [List.length_map, length_freeBytes]
    exact ((commandEffect_readTransaction _ _).trans (commandEffect_setRxbuf hlength)).trans (commandEffect_setStatus rfl)

/-- A query may do what the writers of its result and of its default may (R180, R181). -/
theorem commandEffect_query {reg : Byte} {n : Nat} {decoded : List Byte → State → State} {dflt : State → State}
    (h : query reg n decoded dflt s = some t) (hdecoded : ∀ bytes u, CommandEffect i u (decoded bytes u))
    (hdflt : ∀ u, CommandEffect i u (dflt u)) : CommandEffect i s t := by
  obtain ⟨bytes, -, rfl⟩ | ⟨-, rfl⟩ := query_cases h
  · exact (commandEffect_readTransaction _ _).trans (hdecoded bytes _)
  · have hdefault := (commandEffect_readTransaction (s := s) (.busRead s.devAddr reg n .err) n).trans (hdflt _)
    exact hdefault.trans (commandEffect_setStatus hdefault.base.ready.symm)

/-- All that a command's body may do besides its transaction (R51). -/
theorem BodyResult.effect (h : BodyResult i s t) : CommandEffect i s t := by
  cases h with
  | fault => exact commandEffect_setStatus rfl
  | wrreg _ _ _ _ _ body => exact commandEffect_rawWrite body
  | rdreg _ _ _ _ _ body => exact commandEffect_rawRead body
  | deccoord =>
    exact (((commandEffect_requireValue _).trans (commandEffect_writeCoordinate rfl rfl _)).trans
      (commandEffect_knownNumber rfl _)).trans (commandEffect_of_letter rfl _)
  | dectriple =>
    exact ((commandEffect_requireValue _).trans
      (commandEffect_setRational rfl (rationalLegal_writeTriple _ _))).trans (commandEffect_knownNumber rfl _)
  | rejected => exact commandEffect_setStatus rfl
  | control _ _ _ _ _ _ body => exact commandEffect_controlWrite body
  | count _ _ _ _ which body =>
    have hi : i.writesRational = true := by obtain rfl | rfl := which <;> rfl
    exact commandEffect_query body (fun b u => commandEffect_setRational hi (rationalLegal_writeCount b u))
      (fun u => commandEffect_setRational hi (rationalLegal_defaultCount u))
  | date _ _ body =>
    exact commandEffect_query body (fun _ _ => commandEffect_setFields rfl _ _ _)
      (fun _ => commandEffect_setFields rfl _ _ _)
  | time _ _ body =>
    exact commandEffect_query body (fun _ _ => commandEffect_setFields rfl _ _ _)
      (fun _ => commandEffect_setFields rfl _ _ _)
  | coordinate _ _ letter _ _ which body =>
    have hi : i.writesRational = true := by obtain rfl | rfl := which <;> rfl
    have hletter : i.writesLetter = true := by obtain rfl | rfl := which <;> rfl
    exact commandEffect_query body (fun b _ => commandEffect_writeCoordinate hi hletter b)
      (fun _ => commandEffect_defaultCoordinate hi hletter letter)
  | triple _ _ _ _ which body =>
    have hi : i.writesRational = true := by obtain rfl | rfl | rfl := which <;> rfl
    exact commandEffect_query body (fun b u => commandEffect_setRational hi (rationalLegal_writeTriple b u))
      (fun u => commandEffect_setRational hi (rationalLegal_defaultTriple u))

end Bodies

/-! ### The command frame -/

/-- The prologue, READY's check and the epilogue write STATUS alone and keep READY (R37, R110, R111). -/
theorem exec_effect {i : Instr} {s t : State} (h : exec i s = .next t) : CommandEffect i s t := by
  obtain ⟨hready, rfl⟩ | ⟨-, rfl⟩ | ⟨-, u, hu, rfl⟩ := exec_cases h
  · exact commandEffect_setStatus hready.symm
  · exact .refl
  · have hbody := (commandEffect_setStatus (st := s.status.cleared) rfl).trans (bodyOf_cases hu).effect
    exact hbody.trans (commandEffect_setStatus rfl)

/-- Settles O30: the command's effect is the summary of writers. -/
theorem commandsWriteOnlyTheirRegisters : Obligations.CommandsWriteOnlyTheirRegisters := by
  intro i s t h
  have heffect := exec_effect h
  exact ⟨heffect.rational, heffect.letter, heffect.fields, heffect.cells, heffect.base.frame, heffect.base.ready⟩

/-- Settles O32: of the operations a command is made of, only WRREG's own writes SETTLE_OWED. -/
theorem onlyWrregChangesSettleOwed : Obligations.OnlyWrregChangesSettleOwed := by
  intro i s t h
  have heffect := exec_effect h
  exact ⟨heffect.owedKept, heffect.owedBy⟩

end Sys2Proof.Machine
end

section
/-! What every step keeps: a legal STATUS (R222), a legal rational (R44, R143, R146), and every model fault recorded (R235). -/

namespace Sys2Proof.Machine

/-- A refused word ends in NOT_READY or in its own cause, and writes STATUS alone (R110, R212). -/
theorem rejectCommand_cases {c : Cause} {s t : State} (h : rejectCommand c s = .next t) :
    (s.status.ready = false ∧ t = s.setStatus ⟨false, false, false, false, false, true, 5⟩) ∨
      (s.status.ready = true ∧ t = s.setStatus (s.status.cleared.faulted c).completed) := by
  obtain rfl : executed (fun p => some (raiseFault c p)) s = t := by simpa [rejectCommand, command] using h
  obtain ⟨hready, he⟩ | ⟨-, hnone, -⟩ | ⟨hready, u, hu, he⟩ := executed_cases (fun p => some (raiseFault c p)) s
  · exact .inl ⟨hready, he⟩
  · simp at hnone
  · obtain rfl : raiseFault c (prologue s) = u := by simpa using hu
    exact .inr ⟨hready, he⟩

/-- A property that each kind of turn keeps is kept by every step. -/
theorem step_keeps {P : State → Prop} (agenda : ∀ s rest, P s → P (s.setAgenda rest))
    (host : ∀ a s, P s → P (hostAction a s)) (reset : ∀ initOk s, P s → P (blockReset initOk s))
    (command : ∀ i s t, P s → exec i s = .next t → P t)
    (refused : ∀ c s t, P s → decode s.cmd = .reject c → rejectCommand c s = .next t → P t)
    {s t : State} (hs : P s) (hstep : step s = .next t) : P t := by
  have start : ∀ u, TurnStart s u → P u := by
    rintro u (rfl | ⟨rest, rfl⟩)
    · exact hs
    · exact agenda s rest hs
  obtain ⟨a, u, hu, rfl⟩ | ⟨initOk, rest, rfl⟩ | ht | ⟨u, i, hu, -, hexec⟩ | ⟨u, c, hu, hdecode, hreject⟩ :=
    step_cases hstep
  · exact host a u (start u hu)
  · exact reset initOk _ (agenda s rest hs)
  · exact start t ht
  · exact command i u t (start u hu) hexec
  · exact refused c u t (start u hu) hdecode hreject

/-! ### STATUS -/

/-- The STATUS of a successful command: READY alone (R52, R222). -/
def Status.success : Status := ⟨false, true, false, false, false, false, 0⟩

/-- After the prologue STATUS, BUSY apart, is READY alone (R110). -/
theorem Status.cleared_completed {st : Status} (hready : st.ready = true) : st.cleared.completed = .success := by
  simp [Status.cleared, Status.completed, Status.success, hready]

theorem statusLegal_of_completed {s : State} {st : Status} (hst : s.status.completed = st)
    (hmem : st.toWord ∈ statusValues st.ready) : s.statusLegal := by
  subst hst
  exact hmem

/-- NOT_READY is a value of R222. -/
theorem statusLegal_notReady (s : State) :
    (s.setStatus ⟨false, false, false, false, false, true, 5⟩).statusLegal :=
  statusLegal_of_completed (st := ⟨false, false, false, false, false, true, 5⟩) rfl (by decide)

/-- Construction's STATUS is a value of R222 for either draw (R57, R241). -/
theorem statusLegal_constructed (cfg : Config) (initOk : Bool) : (State.constructed cfg initOk).statusLegal := by
  refine statusLegal_of_completed (st := ⟨false, initOk, false, false, false, false, 0⟩) rfl ?_
  cases initOk <;> decide

/-- The flags that a command's body may raise in the STATUS it finds (R38 to R41). -/
inductive Flagged (st : Status) : Status → Prop where
  | none : Flagged st st
  | failed : Flagged st st.failed
  | substituted : Flagged st st.substituted
  | refusedMode : Flagged st st.refusedMode
  | faulted (c : Cause) (operand : c = .badLength ∨ c = .badRange) : Flagged st (st.faulted c)

theorem flagged_noteWrite (r : WriteResult) {st : Status} {s : State} (hst : s.status = st) :
    Flagged st (noteWrite r s).status := by
  subst hst
  cases r with
  | ok => exact .none
  | err => exact .failed

theorem flagged_query {reg : Byte} {n : Nat} {decoded : List Byte → State → State} {dflt : State → State} {s t : State}
    (h : query reg n decoded dflt s = some t) (hdecoded : ∀ bytes u, (decoded bytes u).status = u.status) :
    Flagged s.status t.status := by
  obtain ⟨bytes, -, rfl⟩ | ⟨-, rfl⟩ := query_cases h
  · rw [hdecoded]
    exact .none
  · exact .substituted

theorem BodyResult.flagged {i : Instr} {p t : State} (h : BodyResult i p t) : Flagged p.status t.status := by
  cases h with
  | fault _ reg len c _ _ refused => exact .faulted c (transferFault_cause _ reg len c refused)
  | wrreg _ _ _ _ _ body =>
    obtain ⟨-, rfl⟩ | ⟨-, r, u, -, rfl, rfl⟩ := rawWrite_cases body
    · exact .none
    · exact flagged_noteWrite r (by simp)
  | rdreg _ _ _ _ _ body =>
    obtain ⟨bytes, -, rfl⟩ | ⟨-, rfl⟩ := rawRead_cases body
    · exact .none
    · exact .failed
  | deccoord => exact .none
  | dectriple => exact .none
  | rejected => exact .refusedMode
  | control _ _ _ _ _ _ body =>
    obtain ⟨r, -, rfl⟩ := controlWrite_cases body
    rw [settle, State.log_status]
    exact flagged_noteWrite r (by simp)
  | count _ _ _ _ _ body
  | date _ _ body
  | time _ _ body
  | coordinate _ _ _ _ _ _ body
  | triple _ _ _ _ _ body => exact flagged_query body fun _ _ => rfl

/-- Between commands each flag alone, raised in a success, gives a value of R222. -/
theorem statusLegal_of_flagged {s : State} {st : Status} (hst : s.status.completed = st) (hflag : Flagged .success st) :
    s.statusLegal := by
  refine statusLegal_of_completed hst ?_
  cases hflag with
  | none => decide
  | failed => decide
  | substituted => decide
  | refusedMode => decide
  | faulted c operand => obtain rfl | rfl := operand <;> decide

/-- The flags are raised whatever BUSY is (R36). -/
theorem Flagged.completed {st st' : Status} (h : Flagged st st') : Flagged st.completed st'.completed := by
  cases h with
  | none => exact .none
  | failed => exact .failed
  | substituted => exact .substituted
  | refusedMode => exact .refusedMode
  | faulted c operand => exact .faulted c operand

theorem exec_statusLegal {i : Instr} {s t : State} (hs : s.statusLegal) (h : exec i s = .next t) : t.statusLegal := by
  obtain ⟨-, rfl⟩ | ⟨-, rfl⟩ | ⟨hready, u, hu, rfl⟩ := exec_cases h
  · exact statusLegal_notReady s
  · exact hs
  · have hflag : Flagged s.status.cleared.completed u.status.completed := (bodyOf_cases hu).flagged.completed
    rw [Status.cleared_completed hready] at hflag
    exact statusLegal_of_flagged rfl hflag

theorem rejectCommand_statusLegal {c : Cause} {s t : State} (hc : c = .illegalOpcode ∨ c = .reservedBits)
    (h : rejectCommand c s = .next t) : t.statusLegal := by
  obtain ⟨-, rfl⟩ | ⟨hready, rfl⟩ := rejectCommand_cases h
  · exact statusLegal_notReady s
  · have hst : (s.status.cleared.faulted c).completed = Status.success.faulted c :=
      congrArg (Status.faulted c) (Status.cleared_completed hready)
    refine statusLegal_of_completed hst ?_
    obtain rfl | rfl := hc <;> decide

/-- Settles O53: a command ends with one rule's flags raised in a cleared STATUS, and a host action moves BUSY alone. -/
theorem stepsKeepStatusLegal : Obligations.StepsKeepStatusLegal := by
  intro s t hs hstep
  refine step_keeps (P := State.statusLegal) ?_ ?_ ?_ ?_ ?_ hs hstep
  · exact fun _ _ h => h
  · exact fun a u h => statusLegal_of_completed (hostAction_frame a u).status h
  · exact fun initOk u _ => statusLegal_constructed u.cfg initOk
  · exact fun _ _ _ h hexec => exec_statusLegal h hexec
  · exact fun _ _ _ _ hdecode hreject => rejectCommand_statusLegal (decode_reject_cause hdecode) hreject

/-! ### The rational and the model fault record -/

theorem rejectCommand_writesStatus {c : Cause} {s t : State} (h : rejectCommand c s = .next t) :
    ∃ st, t = s.setStatus st := by
  obtain ⟨-, ht⟩ | ⟨-, ht⟩ := rejectCommand_cases h <;> exact ⟨_, ht⟩

/-- Construction leaves no value in RES_NUM and RES_DEN (R57). -/
theorem rationalLegal_constructed (cfg : Config) (initOk : Bool) : (State.constructed cfg initOk).rationalLegal :=
  ⟨fun h => absurd h Bool.false_ne_true, fun h => absurd h Bool.false_ne_true⟩

/-- Settles O54: reset leaves no value, host actions do not write the pair, and every command leaves it legal. -/
theorem stepsKeepRationalLegal : Obligations.StepsKeepRationalLegal := by
  intro s t hs hstep
  refine step_keeps (P := State.rationalLegal) ?_ ?_ ?_ ?_ ?_ hs hstep
  · exact fun _ _ => rationalLegal_congr rfl rfl
  · exact fun a u => rationalLegal_congr (hostAction_frame a u).resNum (hostAction_frame a u).resDen
  · exact fun initOk u _ => rationalLegal_congr rfl rfl (rationalLegal_constructed u.cfg initOk)
  · exact fun _ _ _ h hexec => (exec_effect hexec).legal h
  · intro c u v h _ hreject
    obtain ⟨st, rfl⟩ := rejectCommand_writesStatus hreject
    exact rationalLegal_congr rfl rfl h

/-- A host action only adds to the record (R217 to R219). -/
theorem hostAction_recorded (a : HostAction) (s : State) : s.modelFaults.within (hostAction a s).modelFaults := by
  have read : ∀ offset width, s.modelFaults.within (hostRead offset width s).modelFaults := by
    intro offset width
    obtain ⟨w, h⟩ | h | h | h := hostRead_cases offset width s <;> rw [h]
    · exact within_refl _
    · exact within_intruded _
    · exact within_missing _ _
    · exact within_misaligned _
  cases a with
  | write offset width v =>
    show s.modelFaults.within (hostWrite offset width v s).modelFaults
    obtain h | ⟨i, h⟩ | ⟨i, h⟩ | h | h | h := hostWrite_cases offset width v s <;> rw [h]
    · exact within_refl _
    · exact within_refl _
    · exact within_refl _
    · exact within_refl _
    · exact within_intruded _
    · exact within_misaligned _
  | read offset width => exact read offset width
  | delay ms => exact within_refl _
  | wait => exact read 0x004 4

/-- Settles O57: every operation of a turn adds to the record or leaves it, and reset keeps it. -/
theorem modelFaultsAreNeverCleared : Obligations.ModelFaultsAreNeverCleared := by
  intro s t hstep
  refine step_keeps (P := fun u => s.modelFaults.within u.modelFaults) ?_ ?_ ?_ ?_ ?_ (within_refl _) hstep
  · exact fun _ _ h => h
  · exact fun a u h => within_trans h (hostAction_recorded a u)
  · exact fun _ _ h => h
  · exact fun _ _ _ h hexec => within_trans h (exec_effect hexec).base.recorded
  · intro c u v h _ hreject
    obtain ⟨st, rfl⟩ := rejectCommand_writesStatus hreject
    exact h

end Sys2Proof.Machine
end

section
/-! The order of turns (R4, R33; log 1, log 13): what the step is for each turn that can be next. -/

namespace Sys2Proof.Machine

/-- A pending host action but `wait` is the step in any engine state (R4). -/
theorem step_host {s : State} {a : HostAction} {rest : List Turn} (ha : a ≠ .wait) (hturn : s.agenda = .host a :: rest) :
    step s = .next (hostAction a (s.setAgenda rest)) := by
  simp [step, nextTurn, hturn, ha, takeTurn]

/-- At a host's `wait` the step is the engine's Execute while BUSY (R109). -/
theorem step_wait_of_busy {s : State} {rest : List Turn} (hbusy : s.status.busy = true)
    (hturn : s.agenda = .host .wait :: rest) : step s = execute s := by
  simp [step, nextTurn, hturn, hbusy]

theorem step_engine_of_busy {s : State} {rest : List Turn} (hbusy : s.status.busy = true)
    (hturn : s.agenda = .engine :: rest) : step s = execute (s.setAgenda rest) := by
  simp [step, nextTurn, hturn, takeTurn, engineTurn, hbusy]

theorem step_engine_of_idle {s : State} {rest : List Turn} (hidle : s.status.busy = false)
    (hturn : s.agenda = .engine :: rest) : step s = .next (s.setAgenda rest) := by
  simp [step, nextTurn, hturn, takeTurn, engineTurn, hidle]

theorem step_noTurn_of_busy {s : State} (hbusy : s.status.busy = true) (hturn : s.agenda = []) : step s = execute s := by
  simp [step, nextTurn, hturn, engineTurn, hbusy]

theorem step_noTurn_of_idle {s : State} (hidle : s.status.busy = false) (hturn : s.agenda = []) : step s = .next s := by
  simp [step, nextTurn, hturn, engineTurn, hidle]

theorem step_reset {s : State} {initOk : Bool} {rest : List Turn} (hturn : s.agenda = .reset initOk :: rest) :
    step s = .next (blockReset initOk (s.setAgenda rest)) := by
  simp [step, nextTurn, hturn, takeTurn]

theorem execute_of_command {s : State} {i : Instr} (hdecode : decode s.cmd = .command i) : execute s = exec i s := by
  simp [execute, hdecode]

/-- The command of a table word is that of its command word (R100). -/
theorem decode_tableWord {nbits w : Nat} {i : Instr} (h : decodeTableWord nbits w = some i) :
    decode (tableWord nbits w) = .command i := by
  unfold decodeTableWord at h
  split at h
  case h_1 j hj => rw [hj, Option.some.inj h]
  case h_2 => cases h

/-- Settles O6: each of the three turns is Execute, and Execute is the decoded command. -/
theorem stepRunsTheDecodedCommand : Obligations.StepRunsTheDecodedCommand := by
  intro s i hbusy hdecode
  refine ⟨fun rest hturn => ?_, fun hturn => ?_, fun rest hturn => ?_⟩
  · have hdecode' : decode (s.setAgenda rest).cmd = .command i := hdecode
    rw [step_engine_of_busy hbusy hturn, execute_of_command hdecode']
  · rw [step_noTurn_of_busy hbusy hturn, execute_of_command hdecode]
  · rw [step_wait_of_busy hbusy hturn, execute_of_command hdecode]

/-- Settles O7: the placed engine's turn executes the placed word, with the agenda as it was. -/
theorem placedWordRunsNext : Obligations.PlacedWordRunsNext := by
  intro s nbits w i h
  have hturn : (s.withFetchWord nbits w).agenda = .engine :: s.agenda := rfl
  have hbusy : (s.withFetchWord nbits w).status.busy = true := rfl
  have hdecode : decode ((s.withFetchWord nbits w).setAgenda s.agenda).cmd = .command i := decode_tableWord h
  rw [step_engine_of_busy hbusy hturn, execute_of_command hdecode]
  rfl

end Sys2Proof.Machine
end

section
/-! The host window (R32, R33, R84, R85): which register an offset names, and what a whole access does to it while IDLE and while
BUSY. -/

namespace Sys2Proof.Machine

/-! ### The map -/

/-- Above the named registers an offset names a buffer cell or is reserved (R32). -/
theorem windowRegister_of_gt {maxXfer offset : Nat} (h : 0x020 < offset) :
    windowRegister maxXfer offset = bufferCell maxXfer offset := by
  unfold windowRegister
  split
  case h_10 => rfl
  all_goals omega

theorem bufferCell_tx {maxXfer i : Nat} (hi : i < maxXfer) (hrx : i < 64) : bufferCell maxXfer (0x100 + 4 * i) = .tx i := by
  have htx : 0x100 + 4 * i < 0x100 + 4 * maxXfer := by omega
  have hnot : ¬ 0x200 ≤ 0x100 + 4 * i := by omega
  simp [bufferCell, htx, hnot]

theorem bufferCell_rx {maxXfer i : Nat} (hi : i < maxXfer) (htx : maxXfer ≤ 64 + i) :
    bufferCell maxXfer (0x200 + 4 * i) = .rx i := by
  have hrx : 0x200 + 4 * i < 0x200 + 4 * maxXfer := by omega
  have hnot : ¬ 0x200 + 4 * i < 0x100 + 4 * maxXfer := by omega
  simp [bufferCell, hrx, hnot]

theorem bufferCell_reserved {maxXfer offset : Nat} (htx : offset < 0x100 ∨ 0x100 + 4 * maxXfer ≤ offset)
    (hrx : offset < 0x200 ∨ 0x200 + 4 * maxXfer ≤ offset) : bufferCell maxXfer offset = .reserved := by
  have hnottx : (decide (0x100 ≤ offset) && decide (offset < 0x100 + 4 * maxXfer)) = false := by
    simp; omega
  have hnotrx : (decide (0x200 ≤ offset) && decide (offset < 0x200 + 4 * maxXfer)) = false := by
    simp; omega
  simp only [bufferCell, hnottx, hnotrx]

/-- Settles O40: the named offsets compute, and each other clause is one case of the two windows. -/
theorem windowMap : Obligations.WindowMap := by
  intro maxXfer
  refine ⟨⟨rfl, rfl, rfl, rfl, rfl, rfl, rfl, rfl, rfl⟩, fun i hi hrx => ?_, fun i hi htx => ?_, fun k hk htx hrx => ?_⟩
  · rw [windowRegister_of_gt (by omega), bufferCell_tx hi hrx]
  · rw [windowRegister_of_gt (by omega), bufferCell_rx hi htx]
  · rw [windowRegister_of_gt (by omega), bufferCell_reserved htx hrx]

/-! ### Whole accesses -/

section Accesses
variable {s : State} {offset : Nat} {r : WindowRegister}

/-- The registers of R33 and R249. -/
theorem readableWhileBusy_iff : r.readableWhileBusy = true ↔ r = .cmd ∨ r = .status ∨ r = .devAddr := by
  cases r <;> simp [WindowRegister.readableWhileBusy]

/-- A whole read is performed while IDLE, and at any time of a register that is readable while BUSY (R33, R249). -/
theorem hostRead_performed (haligned : offset % 4 = 0) (hr : windowRegister s.cfg.maxXfer offset = r)
    (hallowed : s.status.busy = false ∨ r.readableWhileBusy = true) : hostRead offset 4 s = readRegister r s := by
  subst hr
  obtain h | h := hallowed <;> simp [hostRead, wholeAccess, haligned, h]

/-- Any other whole read is a violation of the host's protocol (R217, R249). -/
theorem hostRead_intrudes (haligned : offset % 4 = 0) (hbusy : s.status.busy = true)
    (hr : (windowRegister s.cfg.maxXfer offset).readableWhileBusy = false) : hostRead offset 4 s = intrude s := by
  simp [hostRead, wholeAccess, haligned, hbusy, hr]

theorem hostWrite_of_idle (v : Word) (haligned : offset % 4 = 0) (hr : windowRegister s.cfg.maxXfer offset = r)
    (hidle : s.status.busy = false) : hostWrite offset 4 v s = writeRegister r v s := by
  subst hr
  simp [hostWrite, wholeAccess, haligned, hidle]

theorem hostWrite_of_busy (v : Word) (haligned : offset % 4 = 0) (hbusy : s.status.busy = true) :
    hostWrite offset 4 v s = intrude s := by
  simp [hostWrite, wholeAccess, haligned, hbusy]

/-- The read of a slot that holds a value gives it zero-extended (R32). -/
theorem readSlot_of_value {w : Nat} {slot : Slot w} {v : BitVec w} (h : slot = .of v) :
    readSlot slot s = s.reply (v.setWidth 32) := by
  subst h
  rfl

/-- A write to a register that is neither CMD nor a buffer cell is ignored (R85). -/
theorem writeRegister_readOnly (v : Word) (hcmd : r ≠ .cmd) (hcell : ∀ i, r ≠ .tx i ∧ r ≠ .rx i) :
    writeRegister r v s = s := by
  cases r with
  | cmd => exact absurd rfl hcmd
  | tx i => exact absurd rfl (hcell i).1
  | rx i => exact absurd rfl (hcell i).2
  | _ => rfl

end Accesses

theorem length_storeCell (cells : List (Slot 8)) (i : Nat) (v : Word) : (storeCell cells i v).length = cells.length :=
  List.length_set

/-- The cell stored to holds the word's low byte, and every other cell what it held (R32). -/
theorem cellAt_storeCell {cells : List (Slot 8)} {i : Nat} (v : Word) (hi : i < cells.length) (k : Nat) :
    cellAt (storeCell cells i v) k = if k = i then .of (v.setWidth 8) else cellAt cells k := by
  have hlow : v.extractLsb' 0 8 = v.setWidth 8 := (BitVec.setWidth_eq_extractLsb' (by decide)).symm
  by_cases hk : k = i
  · subst hk
    simp [cellAt, storeCell, hi, hlow]
  · simp [cellAt, storeCell, List.getD_eq_getElem?_getD, List.getElem?_set_ne (Ne.symm hk), hk]

/-! ### The host's turn -/

/-- Settles O8: offset 0x000 names CMD, and its write while IDLE is the Issue step. -/
theorem issueStoresCommandAndSetsBusy : Obligations.IssueStoresCommandAndSetsBusy := by
  intro s w rest hidle hturn
  have hwrite : hostWrite 0x000 4 w (s.setAgenda rest) = issue w (s.setAgenda rest) := hostWrite_of_idle w rfl rfl hidle
  calc step s = .next (hostWrite 0x000 4 w (s.setAgenda rest)) := step_host_of_idle hidle hturn
    _ = _ := by rw [hwrite]; rfl

/-- Settles O60: `wait` reads STATUS, and the engine's turn finds nothing to execute. -/
theorem idleWaitReadsStatusAndIdleEngineRests : Obligations.IdleWaitReadsStatusAndIdleEngineRests := by
  intro s hidle
  refine ⟨fun rest hturn => ?_, fun rest hturn => ?_, fun hturn => ?_⟩
  · have hread : hostRead 0x004 4 (s.setAgenda rest) = readRegister .status (s.setAgenda rest) :=
      hostRead_performed rfl rfl (.inl hidle)
    calc step s = .next (hostRead 0x004 4 (s.setAgenda rest)) := step_host_of_idle hidle hturn
      _ = _ := by rw [hread]; rfl
  · exact step_engine_of_idle hidle hturn
  · exact step_noTurn_of_idle hidle hturn

/-- A host's whole read that is performed and gives `w` adds `w` to the replies (R32, log 14). -/
theorem step_read {s : State} {rest : List Turn} {offset : Nat} {r : WindowRegister} {w : Word}
    (hturn : s.agenda = .host (.read offset 4) :: rest) (haligned : offset % 4 = 0)
    (hr : windowRegister s.cfg.maxXfer offset = r) (hallowed : s.status.busy = false ∨ r.readableWhileBusy = true)
    (hvalue : readRegister r (s.setAgenda rest) = (s.setAgenda rest).reply w) :
    step s = .next { s with agenda := rest, replies := s.replies ++ [w] } := by
  have hread : hostRead offset 4 (s.setAgenda rest) = readRegister r (s.setAgenda rest) :=
    hostRead_performed haligned hr hallowed
  calc step s = .next (hostRead offset 4 (s.setAgenda rest)) := step_host (by simp) hturn
    _ = _ := by rw [hread, hvalue]; rfl

/-- Settles O41: each read is one that the engine's state allows. -/
theorem readableRegistersAnswerAnyTime : Obligations.ReadableRegistersAnswerAnyTime := by
  intro s rest offset r w hturn haligned hr hcases
  obtain ⟨rfl, rfl⟩ | ⟨rfl, rfl⟩ | ⟨rfl, rfl⟩ | ⟨rfl, hidle, rfl⟩ := hcases
  · exact step_read hturn haligned hr (.inr rfl) rfl
  · exact step_read hturn haligned hr (.inr rfl) rfl
  · exact step_read hturn haligned hr (.inr rfl) rfl
  · exact step_read hturn haligned hr (.inl hidle) rfl

/-- Settles O42: each register's read is the read of its slot. -/
theorem idleReadsGiveValues : Obligations.IdleReadsGiveValues := by
  intro s rest offset r w hidle hturn haligned hr hcases
  refine step_read hturn haligned hr (.inl hidle) ?_
  obtain ⟨rfl, hv⟩ | ⟨rfl, hv⟩ | ⟨c, rfl, hbyte⟩ | ⟨f, rfl, rfl, hv⟩ := hcases
  · exact (readSlot_of_value hv).trans (by rw [BitVec.setWidth_eq])
  · exact (readSlot_of_value hv).trans (by rw [BitVec.setWidth_eq])
  · obtain ⟨rfl, hv⟩ | ⟨rfl, hv⟩ | ⟨rfl, hv⟩ | ⟨i, rfl, hv⟩ | ⟨i, rfl, hv⟩ := hbyte
    all_goals exact readSlot_of_value hv
  · exact readSlot_of_value hv

/-- While IDLE a host's whole write is the write of the register it names (R33). -/
theorem step_write {s : State} {rest : List Turn} {offset : Nat} {r : WindowRegister} {v : Word}
    (hidle : s.status.busy = false) (hturn : s.agenda = .host (.write offset 4 v) :: rest) (haligned : offset % 4 = 0)
    (hr : windowRegister s.cfg.maxXfer offset = r) : step s = .next (writeRegister r v (s.setAgenda rest)) := by
  have hwrite : hostWrite offset 4 v (s.setAgenda rest) = writeRegister r v (s.setAgenda rest) :=
    hostWrite_of_idle v haligned hr hidle
  calc step s = .next (hostWrite offset 4 v (s.setAgenda rest)) := step_host_of_idle hidle hturn
    _ = _ := by rw [hwrite]

/-- Settles O44: the write is `storeCell` on the buffer that the offset names. -/
theorem bufferWritesStoreOneCell : Obligations.BufferWritesStoreOneCell := by
  intro s rest offset i w hidle hturn haligned hsized hi
  obtain ⟨htx, hrx⟩ := hsized
  refine ⟨fun hr => ⟨storeCell s.txbuf i w, ?_, length_storeCell _ _ _, cellAt_storeCell w (htx ▸ hi)⟩,
    fun hr => ⟨storeCell s.rxbuf i w, ?_, length_storeCell _ _ _, cellAt_storeCell w (hrx ▸ hi)⟩⟩
  · exact step_write hidle hturn haligned hr
  · exact step_write hidle hturn haligned hr

/-- Settles O45: a register that is neither CMD nor a buffer cell ignores the write. -/
theorem readOnlyWritesIgnored : Obligations.ReadOnlyWritesIgnored := by
  intro s rest offset w hidle hturn haligned hcmd hcell
  rw [step_write hidle hturn haligned rfl, writeRegister_readOnly w hcmd hcell]
  rfl

/-- Settles O59: while BUSY every access but the reads of R33 and R249 is an intrusion. -/
theorem busyAllowsOnlyItsReads : Obligations.BusyAllowsOnlyItsReads := by
  intro s rest offset w hbusy haligned haccess
  obtain hturn | ⟨hturn, hcmd, hstatus, haddr⟩ := haccess
  · have hwrite : hostWrite offset 4 w (s.setAgenda rest) = intrude (s.setAgenda rest) :=
      hostWrite_of_busy w haligned hbusy
    calc step s = .next (hostWrite offset 4 w (s.setAgenda rest)) := step_host (by simp) hturn
      _ = _ := by rw [hwrite]; rfl
  · have hread : hostRead offset 4 (s.setAgenda rest) = intrude (s.setAgenda rest) := by
      refine hostRead_intrudes haligned hbusy (Bool.eq_false_iff.2 fun h => ?_)
      obtain h | h | h := readableWhileBusy_iff.1 h
      · exact hcmd h
      · exact hstatus h
      · exact haddr h
    calc step s = .next (hostRead offset 4 (s.setAgenda rest)) := step_host (by simp) hturn
      _ = _ := by rw [hread]; rfl

end Sys2Proof.Machine
end

section
/-! Block reset (R57, R240 to R243): what it keeps of the state it finds, and what construction leaves. -/

namespace Sys2Proof.Machine

/-! ### The abandoned command -/

/-- Without a transaction in flight a reset abandons nothing (R243). -/
theorem abandon_of_none {s : State} (h : inFlight s = none) : abandon s = s := by simp [abandon, h]

/-- A read in flight counts as one transaction (R242; log 11). -/
theorem abandon_of_read {s : State} {reg : Byte} {n : Nat} (h : inFlight s = some (.read reg n)) :
    abandon s = s.countTransaction n := by
  simp [abandon, h]

/-- A write in flight counts as one failed transaction (R80, R242; log 11). -/
theorem abandon_of_write {s : State} {reg : Byte} {n : Nat} (h : inFlight s = some (.write reg n)) :
    abandon s = (s.setDevice (s.deviceAfterWrite reg (freeBytes s.draws n) .err)).countTransaction n := by
  simp [abandon, h]

/-- An idle engine has nothing in flight (R33, R244). -/
theorem inFlight_of_idle {s : State} (hidle : s.status.busy = false) : inFlight s = none := by simp [inFlight, hidle]

/-- A reset turn that abandons no transaction keeps the device and all that lies outside the block (R243; log 12). -/
theorem step_reset_of_noneInFlight {s : State} {initOk : Bool} {rest : List Turn}
    (hturn : s.agenda = .reset initOk :: rest) (hnone : inFlight s = none) :
    step s = .next { State.constructed s.cfg initOk with
      modelFaults := s.modelFaults, device := s.device, bus := s.bus, agenda := rest, replies := s.replies,
      txns := s.txns, draws := s.draws } := by
  have habandon : abandon (s.setAgenda rest) = s.setAgenda rest := abandon_of_none hnone
  rw [step_reset hturn, blockReset, habandon]
  rfl

/-- Settles O50: an idle block has no transaction in flight. -/
theorem resetOfIdleBlock : Obligations.ResetOfIdleBlock :=
  fun _ _ _ hidle hturn => step_reset_of_noneInFlight hturn (inFlight_of_idle hidle)

/-- Settles O51: what `abandon` does in each of the three cases, and a failed write's device outside its target. -/
theorem resetWhileBusyAbandonsCommand : Obligations.ResetWhileBusyAbandonsCommand := by
  intro s rest initOk _ hturn
  refine ⟨step_reset_of_noneInFlight hturn, fun reg n hread => ?_, fun reg n hwrite => ?_⟩
  · have habandon : abandon (s.setAgenda rest) = (s.setAgenda rest).countTransaction n := abandon_of_read hread
    rw [step_reset hturn, blockReset, habandon]
    rfl
  · have habandon := abandon_of_write (s := s.setAgenda rest) hwrite
    refine ⟨s.deviceAfterWrite reg (freeBytes s.draws n) .err, ?_, fun a ha => ?_⟩
    · rw [step_reset hturn, blockReset, habandon]
      rfl
    · exact deviceAfterWrite_outside reg _ .err s a (by rwa [length_freeBytes])

/-! ### Construction -/

/-- No cell of a buffer that nothing has written holds a value, nor does one beyond it (R57; log 19). -/
theorem cellAt_replicate_unwritten (n i : Nat) : (cellAt (List.replicate n .unwritten) i).valid = false := by
  have hcell : cellAt (List.replicate n .unwritten) i = .unwritten := by
    by_cases hi : i < n <;> simp [cellAt, hi]
  rw [hcell, Slot.unwritten_valid]

/-- Settles O49: construction's fields as they stand, and its buffers cell by cell. -/
theorem constructionLeavesResetValues : Obligations.ConstructionLeavesResetValues := by
  intro cfg initOk
  have hstatus : (State.constructed cfg initOk).status.toWord = if initOk then 0x002 else 0x000 := by
    cases initOk <;> rfl
  exact ⟨_, rfl, rfl, rfl, hstatus, rfl, rfl, rfl, rfl, rfl, rfl,
    fun i => ⟨cellAt_replicate_unwritten _ i, cellAt_replicate_unwritten _ i⟩, rfl, rfl, rfl, rfl⟩

/-- Settles O52: STATUS and the rational as construction leaves them, buffers of MAX_XFER cells, and an empty device. -/
theorem resetMeetsInvariants : Obligations.ResetMeetsInvariants :=
  ⟨rfl, fun cfg initOk => ⟨statusLegal_constructed cfg initOk, rationalLegal_constructed cfg initOk,
    ⟨List.length_replicate, List.length_replicate⟩, rfl, rfl⟩⟩

end Sys2Proof.Machine
end

section
/-! The device memory keeps its canonical form (R71, R76, R79): every write that a command makes lies inside the device space, and
nothing but a write and a reset's abandoned transaction changes the memory. -/

namespace Sys2Proof.Machine

/-- STATUS after a write that ended with `r` (R38). -/
def Status.afterWrite (r : WriteResult) (st : Status) : Status :=
  match r with
  | .ok => st
  | .err => st.failed

/-- IOERR is all that `noteWrite` writes (R38). -/
theorem noteWrite_eq (r : WriteResult) (s : State) : noteWrite r s = s.setStatus (s.status.afterWrite r) := by
  cases r <;> rfl

/-! ### Bodies -/

/-- A control command writes one byte, and every offset has room for one (R79). -/
theorem deviceCanonical_controlWrite {reg value : Byte} {s t : State} (h : controlWrite reg value s = some t)
    (hs : s.deviceCanonical) : t.deviceCanonical := by
  obtain ⟨r, -, rfl⟩ := controlWrite_cases h
  rw [noteWrite_eq]
  exact deviceAfterWrite_wf reg [value] r s reg.isLt hs

/-- WRREG's range check keeps its bytes inside the device space (R76). -/
theorem deviceCanonical_rawWrite {reg len : Byte} {s t : State} (h : rawWrite reg len s = some t)
    (hrange : reg.toNat + len.toNat ≤ 256) (hs : s.deviceCanonical) : t.deviceCanonical := by
  obtain ⟨-, rfl⟩ | ⟨-, r, u, -, rfl, rfl⟩ := rawWrite_cases h
  · exact hs
  · rw [noteWrite_eq]
    exact deviceAfterWrite_wf reg _ r s (by rwa [length_cellBits]) hs

theorem rawRead_device {reg len : Byte} {s t : State} (h : rawRead reg len s = some t) : t.device = s.device := by
  obtain ⟨bytes, -, rfl⟩ | ⟨-, rfl⟩ := rawRead_cases h <;> simp

/-- A query leaves the device alone when the writers of its result do (R180). -/
theorem query_device {reg : Byte} {n : Nat} {decoded : List Byte → State → State} {dflt : State → State} {s t : State}
    (h : query reg n decoded dflt s = some t) (hdecoded : ∀ bytes u, (decoded bytes u).device = u.device)
    (hdflt : ∀ u, (dflt u).device = u.device) : t.device = s.device := by
  obtain ⟨bytes, -, rfl⟩ | ⟨-, rfl⟩ := query_cases h
  · exact hdecoded bytes _
  · exact hdflt _

theorem deviceCanonical_congr {s t : State} (hdevice : t.device = s.device) (hs : s.deviceCanonical) :
    t.deviceCanonical := by
  rwa [State.deviceCanonical, hdevice]

/-- No command's body breaks the form. -/
theorem BodyResult.deviceCanonical {i : Instr} {p t : State} (h : BodyResult i p t) (hp : p.deviceCanonical) :
    t.deviceCanonical := by
  cases h with
  | fault => exact hp
  | wrreg _ _ _ _ passed body =>
    obtain ⟨-, -, hrange⟩ := (transferFault_eq_none_iff _ _ _).1 passed
    exact deviceCanonical_rawWrite body hrange hp
  | rdreg _ _ _ _ _ body => exact deviceCanonical_congr (rawRead_device body) hp
  | deccoord => exact deviceCanonical_congr (by simp [decodeCoordinateBuffer, writeCoordinate]) hp
  | dectriple => exact deviceCanonical_congr (by simp [decodeTripleBuffer, writeTriple]) hp
  | rejected => exact hp
  | control _ _ _ _ _ _ body => exact deviceCanonical_controlWrite body hp
  | count _ _ _ _ _ body
  | date _ _ body
  | time _ _ body
  | coordinate _ _ _ _ _ _ body
  | triple _ _ _ _ _ body => exact deviceCanonical_congr (query_device body (fun _ _ => rfl) fun _ => rfl) hp

/-! ### Every turn -/

/-- The prologue and the epilogue write STATUS alone (R110, R111). -/
theorem exec_deviceCanonical {i : Instr} {s t : State} (hs : s.deviceCanonical) (h : exec i s = .next t) :
    t.deviceCanonical := by
  obtain ⟨-, rfl⟩ | ⟨-, rfl⟩ | ⟨-, u, hu, rfl⟩ := exec_cases h
  · exact hs
  · exact hs
  · exact (bodyOf_cases hu).deviceCanonical hs

/-- Settles O56: a command writes inside the device space, a reset abandons such a write at most, and no other turn writes the
device. -/
theorem stepsKeepDeviceCanonical : Obligations.StepsKeepDeviceCanonical := by
  intro s t hs hstep
  refine step_keeps (P := State.deviceCanonical) ?_ ?_ ?_ ?_ ?_ hs hstep
  · exact fun _ _ h => h
  · exact fun a u => deviceCanonical_congr (hostAction_frame a u).device
  · exact fun _ u h => abandon_wf u h
  · exact fun _ _ _ h hexec => exec_deviceCanonical h hexec
  · intro c u v h _ hreject
    obtain ⟨st, rfl⟩ := rejectCommand_writesStatus hreject
    exact h

end Sys2Proof.Machine
end

section
/-! The bus's answer decides a transaction (R12, R78, R79, R92): what each body and each command leaves for a given answer, and how
the simulated device answers. -/

namespace Sys2Proof.Machine

/-! ### Answers -/

/-- Under SimDevice a transaction that the schedule names fails (R79). -/
theorem answers_of_scheduled {s : State} (hsim : s.cfg.simDevice = true) (hfail : s.txns + 1 ∈ s.cfg.failures) (reg : Byte)
    (n : Nat) : s.readAnswer reg n = some .err ∧ s.writeAnswer = some .err := by
  have hscheduled : s.scheduledFailure = true := by simpa [State.scheduledFailure] using hfail
  simp [State.readAnswer, State.writeAnswer, hsim, hscheduled]

section Unscheduled
variable {s : State} (hsim : s.cfg.simDevice = true) (hok : s.txns + 1 ∉ s.cfg.failures)
include hsim hok

/-- Under SimDevice any other read gives the device's bytes (R79). -/
theorem readAnswer_of_unscheduled (reg : Byte) (n : Nat) :
    s.readAnswer reg n = some (.ok (s.device.readBytes reg.toNat n)) := by
  have hscheduled : s.scheduledFailure = false := by simpa [State.scheduledFailure] using hok
  simp [State.readAnswer, hsim, hscheduled]

theorem writeAnswer_of_unscheduled : s.writeAnswer = some .ok := by
  have hscheduled : s.scheduledFailure = false := by simpa [State.scheduledFailure] using hok
  simp [State.writeAnswer, hsim, hscheduled]

end Unscheduled

/-- Settles O36: the schedule decides between `Err` and `Ok`, and an `Ok` read is the device's bytes. -/
theorem simulatedDeviceAnswers : Obligations.SimulatedDeviceAnswers := by
  intro s reg n hsim
  refine ⟨fun hfail => answers_of_scheduled hsim hfail reg n, fun hok => ?_⟩
  exact ⟨writeAnswer_of_unscheduled hsim hok, _, readAnswer_of_unscheduled hsim hok reg n,
    fun i hi => Memory.byteAt_readBytes s.device reg.toNat n i hi⟩

/-! ### Bodies past their operand checks -/

theorem modeAccepted_iff (mode : Byte) : modeAccepted mode = true ↔ 1 ≤ mode.toNat ∧ mode.toNat ≤ 7 := by
  simp [modeAccepted]

/-- WRREG and RDREG whose operands pass the checks are their transactions (R110, R130, R131). -/
theorem bodyOf_wrreg {reg len : Byte} {s : State} (h : transferFault s.cfg.maxXfer reg len = none) :
    bodyOf (.wrreg reg len) s = rawWrite reg len s := by
  simp [bodyOf, h]

theorem bodyOf_rdreg {reg len : Byte} {s : State} (h : transferFault s.cfg.maxXfer reg len = none) :
    bodyOf (.rdreg reg len) s = rawRead reg len s := by
  simp [bodyOf, h]

/-- SETMODE of an accepted mode is a control command's write (R160). -/
theorem bodyOf_setmode {mode : Byte} (h : modeAccepted mode = true) :
    bodyOf (.setmode mode) = controlWrite regGnssMode mode := by
  simp [bodyOf, h]

/-! ### A bus that never answers -/

/-- A body that the bus leaves without an answer does not end the command, and the state stays (R92; log 7). -/
theorem exec_of_unanswered {i : Instr} {s : State} (hr : s.status.ready = true) (hnone : bodyOf i (prologue s) = none) :
    exec i s = .next s := by
  rw [exec_eq_command, command, executed, if_pos hr, hnone]

section Silent
variable {s : State}

/-- The real bus's silence is no answer to a transaction of either kind (R92). -/
theorem answers_of_never (hreal : s.cfg.simDevice = false) (hnever : s.nextReply = .never) :
    (∀ reg n, s.readAnswer reg n = none) ∧ s.writeAnswer = none := by
  simp [State.readAnswer, State.writeAnswer, hreal, hnever]

theorem controlWrite_of_unanswered (h : s.writeAnswer = none) (reg value : Byte) : controlWrite reg value s = none := by
  simp [controlWrite, memWrite_eq, h]

theorem query_of_unanswered {reg : Byte} {n : Nat} (h : s.readAnswer reg n = none) (decoded : List Byte → State → State)
    (dflt : State → State) : query reg n decoded dflt s = none := by
  simp [query, memRead_eq, h]

theorem rawRead_of_unanswered {reg len : Byte} (h : s.readAnswer reg len.toNat = none) : rawRead reg len s = none := by
  simp [rawRead, memRead_eq, h]

theorem rawWrite_of_unanswered {len : Byte} (h : s.writeAnswer = none) (hvalid : cellsValid s.txbuf len.toNat = true)
    (reg : Byte) : rawWrite reg len s = none := by
  simp [rawWrite, memWrite_eq, h, hvalid]

end Silent

/-- Settles O34: each of these commands rests on one transaction, which the bus never answers. -/
theorem silentBusLeavesCommandBusy : Obligations.SilentBusLeavesCommandBusy := by
  intro s hready hreal hnever
  obtain ⟨hread, hwrite⟩ : (∀ reg n, (prologue s).readAnswer reg n = none) ∧ (prologue s).writeAnswer = none :=
    answers_of_never hreal hnever
  refine ⟨fun i hi hmode => exec_of_unanswered hready ?_, fun reg len hpos hmax hrange => ?_⟩
  · cases i with
    | wrreg | rdreg | deccoord | dectriple => simp [Instr.isAccessor] at hi
    | setmode mode =>
      rw [bodyOf_setmode ((modeAccepted_iff mode).2 (hmode mode rfl))]
      exact controlWrite_of_unanswered hwrite _ _
    | pwron | pwroff | rgbon | rgboff => exact controlWrite_of_unanswered hwrite _ _
    | getmode | getsats | getdate | gettime | getlat | getlon | getalt | getcog | getsog =>
      exact query_of_unanswered (hread _ _) _ _
  · have hpassed : transferFault (prologue s).cfg.maxXfer reg len = none :=
      (transferFault_eq_none_iff _ _ _).2 ⟨hpos, hmax, hrange⟩
    refine ⟨fun hvalid => exec_of_unanswered hready ?_, exec_of_unanswered hready ?_⟩
    · rw [bodyOf_wrreg hpassed]
      exact rawWrite_of_unanswered hwrite ((cellsValid_iff _ _).2 hvalid) reg
    · rw [bodyOf_rdreg hpassed]
      exact rawRead_of_unanswered (hread _ _)

/-! ### Writes -/

/-- The state a write transaction leaves (R12). -/
def State.afterWrite (reg : Byte) (bytes : List Byte) (r : WriteResult) (s : State) : State :=
  State.log (.busWrite s.devAddr reg bytes r)
    ((s.startTransaction.setDevice (s.deviceAfterWrite reg bytes r)).countTransaction bytes.length)

theorem memWrite_of_answer {s : State} {r : WriteResult} (h : s.writeAnswer = some r) (reg : Byte) (bytes : List Byte) :
    memWrite reg bytes s = some (r, s.afterWrite reg bytes r) := by
  rw [memWrite_eq, h]
  rfl

/-- The state that a write transaction leaves once the prologue before it and the epilogue after it are done (R110, R111). -/
def State.writeCompleted (reg : Byte) (bytes : List Byte) (r : WriteResult) (s : State) : State :=
  (s.afterWrite reg bytes r).setStatus (s.status.cleared.afterWrite r).completed

/-- STATUS as a write that ended with `r` leaves it between commands (R38, R222). -/
theorem toWord_afterWrite (r : WriteResult) {st : Status} (hready : st.ready = true) :
    (st.cleared.afterWrite r).completed.toWord = if r = .ok then 0x002 else 0x006 := by
  cases r with
  | ok => exact (congrArg Status.toWord (Status.cleared_completed hready)).trans (by decide)
  | err => exact (congrArg (fun st => (Status.failed st).toWord) (Status.cleared_completed hready)).trans (by decide)

/-- What a command with one write of `bytes` at `reg` that ended with `r` leaves: STATUS by `r`, the device as the write leaves
it, one transaction counted and hazard-checked, and the results and RXBUF as they were (R130, R160 to R164). -/
structure WriteOutcome (reg : Byte) (bytes : List Byte) (r : WriteResult) (s t : State) : Prop where
  status : t.status.toWord = if r = .ok then 0x002 else 0x006
  device : t.device = s.deviceAfterWrite reg bytes r
  results : SameResults s t
  rxbuf : t.rxbuf = s.rxbuf
  hazard : HazardChecked s t
  frame : CommandFrame s t
  txns : t.txns = s.txns + 1

section WriteOutcome
variable {reg : Byte} {bytes : List Byte} {r : WriteResult} {s t : State}

/-- A command that is one write has the outcome. -/
theorem writeOutcome_writeCompleted (hready : s.status.ready = true) :
    WriteOutcome reg bytes r s (s.writeCompleted reg bytes r) where
  status := toWord_afterWrite r hready
  device := by simp [State.writeCompleted, State.afterWrite]
  results := by simp [SameResults, SameRational, SameFields, State.writeCompleted, State.afterWrite]
  rxbuf := by simp [State.writeCompleted, State.afterWrite]
  hazard := by simp [HazardChecked, ModelFaults.settling, State.writeCompleted, State.afterWrite]
  frame := by constructor <;> simp [State.writeCompleted, State.afterWrite]
  txns := by simp [State.writeCompleted, State.afterWrite]

/-- A settle owed after the write does not enter into the outcome. -/
theorem WriteOutcome.setSettleOwed (h : WriteOutcome reg bytes r s t) (owed : Bool) :
    WriteOutcome reg bytes r s (t.setSettleOwed owed) where
  __ := h
  frame := { h.frame with }

/-- Nor does an event logged after it. -/
theorem WriteOutcome.log (h : WriteOutcome reg bytes r s t) (e : Event) : WriteOutcome reg bytes r s (t.log e) where
  __ := h
  frame := { h.frame with }

/-- No register outside the target changes. -/
theorem WriteOutcome.outside (h : WriteOutcome reg bytes r s t) : SameDeviceOutside reg.toNat bytes.length s t := by
  intro a ha
  rw [h.device]
  exact deviceAfterWrite_outside reg bytes r s a ha

/-- With the real device nothing is kept (log 8). -/
theorem WriteOutcome.real (h : WriteOutcome reg bytes r s t) (hreal : s.cfg.simDevice = false) : SameDevice s t := by
  intro a
  rw [h.device, deviceAfterWrite_real reg bytes r s hreal]

/-- Under SimDevice an `Ok` write leaves its bytes (R79). -/
theorem WriteOutcome.inside (h : WriteOutcome reg bytes r s t) (hsim : s.cfg.simDevice = true) (hr : r = .ok) {i : Nat}
    (hi : i < bytes.length) : Memory.read t.device (reg.toNat + i) = byteAt bytes i := by
  subst hr
  rw [h.device]
  exact deviceAfterWrite_inside reg bytes s i hsim hi

/-- Under SimDevice the registers of an `Ok` write read back as its bytes (R79). -/
theorem WriteOutcome.readBytes (h : WriteOutcome reg bytes .ok s t) (hsim : s.cfg.simDevice = true) :
    t.device.readBytes reg.toNat bytes.length = bytes := by
  refine List.ext_getElem (Memory.length_readBytes _ _ _) fun i _ hi => ?_
  simp [Memory.readBytes, h.inside hsim rfl hi, byteAt, hi]

/-- Under SimDevice the next transaction, if it is not to fail and reads the registers just written, gets the bytes written. -/
theorem WriteOutcome.readAnswer (h : WriteOutcome reg bytes .ok s t) (hsim : s.cfg.simDevice = true)
    (hok : s.txns + 2 ∉ s.cfg.failures) : t.readAnswer reg bytes.length = some (.ok bytes) := by
  have hsim' : t.cfg.simDevice = true := by rwa [h.frame.cfg]
  have hok' : t.txns + 1 ∉ t.cfg.failures := by rwa [h.txns, h.frame.cfg]
  rw [readAnswer_of_unscheduled hsim' hok', h.readBytes hsim]

end WriteOutcome

theorem writeCompleted_history (reg : Byte) (bytes : List Byte) (r : WriteResult) (s : State) :
    (s.writeCompleted reg bytes r).history = s.history ++ [.busWrite s.devAddr reg bytes r] := by
  simp [State.writeCompleted, State.afterWrite]

theorem writeCompleted_settleOwed (reg : Byte) (bytes : List Byte) (r : WriteResult) (s : State) :
    (s.writeCompleted reg bytes r).settleOwed = s.settleOwed := by
  simp [State.writeCompleted, State.afterWrite]

/-- WRREG of the payload `bytes`, for the answer `r` (R130). -/
theorem exec_wrreg_of_answer {s : State} {reg len : Byte} {bytes : List Byte} {r : WriteResult}
    (hready : s.status.ready = true) (hpassed : transferFault s.cfg.maxXfer reg len = none)
    (hvalid : cellsValid s.txbuf len.toNat = true) (hbytes : cellBits s.txbuf len.toNat = bytes)
    (h : s.writeAnswer = some r) :
    ∃ t, exec (.wrreg reg len) s = .next t ∧ WriteOutcome reg bytes r s t ∧
      t.history = s.history ++ [.busWrite s.devAddr reg bytes r] ∧
      t.settleOwed = (s.settleOwed || touchesControl reg len) := by
  have hbody : bodyOf (.wrreg reg len) (prologue s) = some (noteWrite r
      (((prologue s).afterWrite reg bytes r).setSettleOwed (s.settleOwed || touchesControl reg len))) := by
    subst hbytes
    have hvalid' : cellsValid (prologue s).txbuf len.toNat = true := hvalid
    rw [bodyOf_wrreg (s := prologue s) hpassed, rawWrite, if_pos hvalid', memWrite_of_answer (s := prologue s) h]
    rfl
  refine ⟨(s.writeCompleted reg bytes r).setSettleOwed (s.settleOwed || touchesControl reg len), ?_,
    (writeOutcome_writeCompleted hready).setSettleOwed _, writeCompleted_history _ _ _ _, rfl⟩
  rw [exec_of_body hready hbody, noteWrite_eq]
  rfl

theorem byteAt_cellBits (cells : List (Slot 8)) {n i : Nat} (h : i < n) :
    byteAt (cellBits cells n) i = (cellAt cells i).bits := by
  simp [byteAt, cellBits, h]

theorem touchesControl_iff (reg len : Byte) :
    touchesControl reg len = true ↔ reg.toNat ≤ 0x24 ∧ 0x22 ≤ reg.toNat + len.toNat - 1 := by
  simp [touchesControl]

/-- Settles O14: WRREG is one write of the payload's bytes. -/
theorem wrregWritesPayload : Obligations.WrregWritesPayload := by
  intro s reg len r hready hpos hmax hrange hvalid hanswer
  have hpassed := (transferFault_eq_none_iff _ _ _).2 ⟨hpos, hmax, hrange⟩
  obtain ⟨t, hexec, hout, hhistory, howed⟩ :=
    exec_wrreg_of_answer hready hpassed ((cellsValid_iff _ _).2 hvalid) rfl hanswer
  have hlength := length_cellBits s.txbuf len.toNat
  refine ⟨t, hexec, hhistory, hout.status, ?_, fun hsim hr i hi => ?_, hlength ▸ hout.outside, hout.real, hout.results,
    hout.rxbuf, hout.hazard, hout.frame, hout.txns⟩
  · rw [howed, Bool.or_eq_true, touchesControl_iff]
  · rw [hout.inside hsim hr (hlength.symm ▸ hi), byteAt_cellBits _ hi]

/-- A control command, for the answer `r` (R160 to R164). -/
theorem exec_control_of_answer {i : Instr} {reg value : Byte} {s : State} {r : WriteResult}
    (hbody : bodyOf i = controlWrite reg value) (hready : s.status.ready = true) (h : s.writeAnswer = some r) :
    ∃ t, exec i s = .next t ∧ WriteOutcome reg [value] r s t ∧
      t.history = s.history ++ [.busWrite s.devAddr reg [value] r, .settle s.cfg.settleMs] ∧
      t.settleOwed = s.settleOwed := by
  have hdone : bodyOf i (prologue s) = some (settle (noteWrite r ((prologue s).afterWrite reg [value] r))) := by
    rw [hbody, controlWrite, memWrite_of_answer (s := prologue s) h]
  refine ⟨(s.writeCompleted reg [value] r).log (.settle s.cfg.settleMs), ?_, (writeOutcome_writeCompleted hready).log _, ?_,
    writeCompleted_settleOwed reg [value] r s⟩
  · rw [exec_of_body hready hdone, noteWrite_eq]
    rfl
  · rw [State.log_history, writeCompleted_history, List.append_assoc, List.singleton_append]

/-- A command whose body is `controlWrite` is a control command (R160 to R164). -/
theorem controlWrite_of_bodyOf {i : Instr} {reg value : Byte} (hbody : bodyOf i = controlWrite reg value) :
    ControlWrite i reg value := by
  intro s r hready hanswer
  obtain ⟨t, hexec, hout, hhistory, howed⟩ := exec_control_of_answer hbody hready hanswer
  exact ⟨t, hexec, hhistory, hout.status, fun hsim hr => hout.inside hsim hr Nat.zero_lt_one, hout.outside, hout.real,
    hout.results, hout.rxbuf, howed, hout.hazard, hout.frame, hout.txns⟩

/-- Settles O22: each control command's body is `controlWrite` of its register and byte. -/
theorem controlCommandsWriteAndSettle : Obligations.ControlCommandsWriteAndSettle := by
  refine ⟨fun mode hlow hhigh => ?_, ?_, ?_, ?_, ?_⟩
  · exact controlWrite_of_bodyOf (bodyOf_setmode ((modeAccepted_iff mode).2 ⟨hlow, hhigh⟩))
  all_goals exact controlWrite_of_bodyOf rfl

/-! ### Reads -/

/-- The state a read transaction leaves (R12). -/
def State.afterRead (reg : Byte) (n : Nat) (r : ReadResult) (s : State) : State :=
  State.log (.busRead s.devAddr reg n r) (s.startTransaction.countTransaction n)

theorem memRead_of_answer {s : State} {reg : Byte} {n : Nat} {r : ReadResult} (h : s.readAnswer reg n = some r) :
    memRead reg n s = some (r, s.afterRead reg n r) := by
  rw [memRead_eq, h]
  rfl

/-- RDREG on an `Ok` answer (R131). -/
theorem exec_rdreg_of_ok {s : State} {reg len : Byte} {bytes : List Byte} (hready : s.status.ready = true)
    (hpassed : transferFault s.cfg.maxXfer reg len = none) (h : s.readAnswer reg len.toNat = some (.ok bytes)) :
    exec (.rdreg reg len) s = .next (epilogue (((prologue s).afterRead reg len.toNat (.ok bytes)).setRxbuf
      (overlay (bytes.map .of) s.rxbuf))) := by
  refine exec_of_body hready ?_
  rw [bodyOf_rdreg (s := prologue s) hpassed, rawRead, memRead_of_answer (s := prologue s) h]
  rfl

/-- A query on an `Ok` answer (R180). -/
theorem exec_query_of_ok {i : Instr} {reg : Byte} {n : Nat} {decoded : List Byte → State → State} {dflt : State → State}
    {s : State} {bytes : List Byte} (hbody : bodyOf i = query reg n decoded dflt) (hready : s.status.ready = true)
    (h : s.readAnswer reg n = some (.ok bytes)) :
    exec i s = .next (epilogue (decoded bytes ((prologue s).afterRead reg n (.ok bytes)))) := by
  refine exec_of_body hready ?_
  rw [hbody, query, memRead_of_answer (s := prologue s) h]

/-- A command that raised no flag ends with STATUS 0x002 (R222). -/
theorem toWord_success {st : Status} (hready : st.ready = true) : st.cleared.completed.toWord = 0x002 :=
  toWord_afterWrite .ok hready

theorem cellAt_map_of {bytes : List Byte} {i : Nat} (h : i < bytes.length) :
    cellAt (bytes.map .of) i = .of (byteAt bytes i) := by
  simp [cellAt, byteAt, h]

/-- Settles O16: RDREG is one read, whose bytes lie over the leading cells of RXBUF. -/
theorem rdregStoresBytes : Obligations.RdregStoresBytes := by
  intro s reg len bytes hready hpos hmax hrange hsized hanswer
  have hexec := exec_rdreg_of_ok hready ((transferFault_eq_none_iff _ _ _).2 ⟨hpos, hmax, hrange⟩) hanswer
  have heffect := exec_effect hexec
  have hlength : bytes.length = len.toNat := readAnswer_length hanswer
  obtain ⟨-, hrx⟩ := hsized
  refine ⟨_, hexec, hlength, fun i hi => ?_, heffect.cells, length_overlay _ _, toWord_success hready, rfl,
    ⟨heffect.rational rfl, heffect.letter rfl, heffect.fields rfl⟩, fun _ => rfl, rfl, rfl, heffect.base.frame, rfl⟩
  have hi' : i < bytes.length := hlength.symm ▸ hi
  calc cellAt (overlay (bytes.map .of) s.rxbuf) i = cellAt (bytes.map .of) i :=
        cellAt_overlay_inside _ _ _ (by simpa using hi') (by simp; omega)
    _ = .of (byteAt bytes i) := cellAt_map_of hi'

/-! ### Writing and reading back under SimDevice -/

/-- Settles O37: the simulated device holds the mode that SETMODE wrote when GETMODE reads it. -/
theorem setmodeThenGetmodeReturnsMode : Obligations.SetmodeThenGetmodeReturnsMode := by
  intro s mode hready hsim hok₁ hok₂ hlow hhigh
  have hmode := (modeAccepted_iff mode).2 ⟨hlow, hhigh⟩
  obtain ⟨t, hset, hout, hhistory, -⟩ :=
    exec_control_of_answer (bodyOf_setmode hmode) hready (writeAnswer_of_unscheduled hsim hok₁)
  have hready' : t.status.ready = true := (exec_effect hset).base.ready.trans hready
  have hget := exec_query_of_ok (i := .getmode) rfl hready' (hout.readAnswer hsim hok₂)
  refine ⟨t, _, hset, hget, hout.inside hsim rfl Nat.zero_lt_one, ?_, rfl, toWord_success hready', ?_⟩
  · exact congrArg Slot.of (BitVec.ofNat_toNat 32 mode)
  · simp [writeCount, State.afterRead, hhistory, hout.frame.devAddr, regGnssMode]

/-- Leading cells that hold `bytes` are a payload, and it is `bytes` (R11, R130). -/
theorem payload_of_take {cells : List (Slot 8)} {bytes : List Byte} (h : cells.take bytes.length = bytes.map .of) :
    cellsValid cells bytes.length = true ∧ cellBits cells bytes.length = bytes := by
  have hcell : ∀ i, (hi : i < bytes.length) → cellAt cells i = .of bytes[i] := by
    intro i hi
    have hget : cells[i]? = some (.of bytes[i]) := by
      rw [← List.getElem?_take_of_lt hi, h]
      simp [hi]
    simp [cellAt, hget]
  refine ⟨(cellsValid_iff _ _).2 fun i hi => by rw [hcell i hi]; rfl, ?_⟩
  refine List.ext_getElem (length_cellBits _ _) fun i _ hi => ?_
  simp [cellBits, hcell i hi]

/-- A 16-bit number is its two bytes, assembled big-endian (R74). -/
theorem be16_split {n : Nat} (h : n < 65536) : be16 (BitVec.ofNat 8 (n / 256)) (BitVec.ofNat 8 (n % 256)) = n := by
  simp only [be16, BitVec.toNat_ofNat]
  omega

/-- Settles O38: the simulated device holds the four bytes that WRREG wrote when GETDATE reads them. -/
theorem dateRoundTrip : Obligations.DateRoundTrip := by
  intro s year month day hready hlegal hsim hok₁ hok₂ hyear htx
  obtain ⟨hvalid, hbits⟩ := payload_of_take
    (bytes := [BitVec.ofNat 8 (year / 256), BitVec.ofNat 8 (year % 256), month, day]) htx
  have hmax : 6 ≤ s.cfg.maxXfer := by
    simp only [Config.legal, Bool.and_eq_true, decide_eq_true_eq] at hlegal
    omega
  have hpassed : transferFault s.cfg.maxXfer 0x00 4 = none :=
    (transferFault_eq_none_iff _ _ _).2 ⟨by decide, le_trans (by decide) hmax, by decide⟩
  obtain ⟨t, hwrite, hout, -, howed⟩ :=
    exec_wrreg_of_answer hready hpassed hvalid hbits (writeAnswer_of_unscheduled hsim hok₁)
  have hready' : t.status.ready = true := (exec_effect hwrite).base.ready.trans hready
  have hget := exec_query_of_ok (i := .getdate) rfl hready' (hout.readAnswer hsim hok₂)
  have hf0 : BitVec.ofNat 16 (be16 (BitVec.ofNat 8 (year / 256)) (BitVec.ofNat 8 (year % 256))) = BitVec.ofNat 16 year :=
    congrArg _ (be16_split hyear)
  refine ⟨t, _, hwrite, hget, congrArg Slot.of hf0, rfl, rfl, ?_, toWord_success hready', ?_⟩
  · simp [State.dateText, writeDate, byteAt, be16_split hyear, Nat.mod_eq_of_lt hyear]
  · simpa [writeDate, State.afterRead, touchesControl] using howed

end Sys2Proof.Machine
end

section
/-! Accesses that are not whole aligned words (R84, R219): recorded before anything else is looked at, BUSY or not (log 16). -/

namespace Sys2Proof.Machine

theorem wholeAccess_of_misaligned {offset width : Nat} (h : width ≠ 4 ∨ offset % 4 ≠ 0) :
    wholeAccess offset width = false := by
  obtain h | h := h <;> simp [wholeAccess, h]

theorem hostWrite_of_misaligned {offset width : Nat} (h : width ≠ 4 ∨ offset % 4 ≠ 0) (v : Word) (s : State) :
    hostWrite offset width v s = s.setModelFaults s.modelFaults.misaligned := by
  simp [hostWrite, wholeAccess_of_misaligned h]

theorem hostRead_of_misaligned {offset width : Nat} (h : width ≠ 4 ∨ offset % 4 ≠ 0) (s : State) :
    hostRead offset width s = s.setModelFaults s.modelFaults.misaligned := by
  simp [hostRead, wholeAccess_of_misaligned h]

/-- Settles O47: the check of the access comes first in a write and in a read. -/
theorem misalignedAccessRecorded : Obligations.MisalignedAccessRecorded := by
  intro s rest offset width w hmisaligned hturn
  obtain hturn | hturn := hturn
  · calc step s = .next (hostWrite offset width w (s.setAgenda rest)) := step_host (by simp) hturn
      _ = _ := by rw [hostWrite_of_misaligned hmisaligned]; rfl
  · calc step s = .next (hostRead offset width (s.setAgenda rest)) := step_host (by simp) hturn
      _ = _ := by rw [hostRead_of_misaligned hmisaligned]; rfl

end Sys2Proof.Machine
end

section
/-! The decoder and the encoder (R100 to R107): the opcode map by command, what `decode` answers for a word of a listed and of a
reserved OP, and that a command's word is the only one that decodes to it. -/

namespace Sys2Proof

/-! ### Rows of the opcode map -/

/-- The must-be-zero fields REG and ARG of the row's format are 0 (R107). -/
def Row.accepts (row : Row) (reg arg : Byte) : Bool :=
  match row with
  | .x _ => true
  | .m _ => decide (reg = 0)
  | .n _ => decide (reg = 0 ∧ arg = 0)

/-- The row's command with the operands that its format takes from REG and ARG (R101). -/
def Row.build (row : Row) (reg arg : Byte) : Instr :=
  match row with
  | .x command => command reg arg
  | .m command => command arg
  | .n command => command

/-- The command's row (R102). -/
def Instr.row (i : Instr) : Row :=
  match i with
  | .wrreg _ _ => .x .wrreg
  | .rdreg _ _ => .x .rdreg
  | .setmode _ => .m .setmode
  | .deccoord | .dectriple | .getmode | .pwron | .pwroff | .rgbon | .rgboff | .getsats | .getdate | .gettime
  | .getlat | .getlon | .getalt | .getcog | .getsog => .n i

theorem rowOf_opcode (i : Instr) : rowOf i.opcode = some i.row := by cases i <;> rfl

theorem opcode_build_of_rowOf {op : Byte} {row : Row} (h : rowOf op = some row) : (row.build 0 0).opcode = op := by
  unfold rowOf at h
  split at h
  case h_19 => cases h
  all_goals
    obtain rfl := Option.some.inj h
    exact BitVec.eq_of_toNat_eq (Eq.symm ‹_›)

/-- Every row of the map is a command's, under that command's OP. -/
theorem exists_instr_of_rowOf {op : Byte} {row : Row} (h : rowOf op = some row) :
    ∃ i : Instr, i.opcode = op ∧ i.row = row := by
  have hop := opcode_build_of_rowOf h
  exact ⟨_, hop, Option.some.inj ((rowOf_opcode _).symm.trans (hop ▸ h))⟩

/-- The OP values that the map does not list (R106). -/
def ReservedOpcode (op : Byte) : Prop :=
  op.toNat = 0x00 ∨ (0x03 ≤ op.toNat ∧ op.toNat ≤ 0x0F) ∨ (0x12 ≤ op.toNat ∧ op.toNat ≤ 0x1F) ∨ 0x2E ≤ op.toNat

theorem not_reservedOpcode_opcode (i : Instr) : ¬ ReservedOpcode i.opcode := by
  cases i <;> simp [ReservedOpcode, Instr.opcode]

theorem rowOf_eq_none_iff (op : Byte) : rowOf op = none ↔ ReservedOpcode op := by
  constructor
  · intro h
    unfold rowOf at h
    split at h
    case h_19 =>
      simp only [imp_false] at *
      unfold ReservedOpcode
      omega
    all_goals cases h
  · intro hreserved
    cases h : rowOf op with
    | none => rfl
    | some row =>
      obtain ⟨i, rfl, -⟩ := exists_instr_of_rowOf h
      exact absurd hreserved (not_reservedOpcode_opcode i)

/-! ### A command's row -/

theorem row_accepts_operands (i : Instr) : i.row.accepts i.regOperand i.argOperand = true := by cases i <;> rfl

theorem row_build_operands (i : Instr) : i.row.build i.regOperand i.argOperand = i := by cases i <;> rfl

theorem opcode_row_build (i : Instr) (reg arg : Byte) : (i.row.build reg arg).opcode = i.opcode := by cases i <;> rfl

/-- The command built from accepted fields is encoded with those fields. -/
theorem operands_row_build (i : Instr) {reg arg : Byte} (h : i.row.accepts reg arg = true) :
    (i.row.build reg arg).regOperand = reg ∧ (i.row.build reg arg).argOperand = arg := by
  cases i with
  | wrreg | rdreg => exact ⟨rfl, rfl⟩
  | setmode =>
    obtain rfl : reg = 0 := of_decide_eq_true h
    exact ⟨rfl, rfl⟩
  | _ =>
    obtain ⟨rfl, rfl⟩ : reg = 0 ∧ arg = 0 := of_decide_eq_true h
    exact ⟨rfl, rfl⟩

/-- Which fields a command's OP frees from being 0: REG in format X, ARG in formats X and M (R101). -/
theorem row_accepts_iff (i : Instr) (reg arg : Byte) :
    i.row.accepts reg arg = true ↔
      (reg = 0 ∨ i.opcode = 0x01 ∨ i.opcode = 0x02) ∧
        (arg = 0 ∨ i.opcode = 0x01 ∨ i.opcode = 0x02 ∨ i.opcode = 0x20) := by
  cases i <;> simp [Instr.row, Row.accepts, Instr.opcode]

/-! ### What the decoder answers -/

theorem decode_of_rowOf_none {w : Word} (h : rowOf (opField w) = none) : decode w = .reject .illegalOpcode := by
  simp [decode, h]

theorem decode_of_rowOf_some {w : Word} {row : Row} (h : rowOf (opField w) = some row) :
    decode w = if rsvField w = 0 ∧ row.accepts (regField w) (argField w) = true then
      .command (row.build (regField w) (argField w)) else .reject .reservedBits := by
  cases row <;> simp only [decode, h, Row.accepts, Row.build, decide_eq_true_eq]
  all_goals split_ifs <;> tauto

/-- ILLEGAL_OPCODE is the answer exactly when the map has no row (R106). -/
theorem decode_eq_illegalOpcode_iff (w : Word) : decode w = .reject .illegalOpcode ↔ rowOf (opField w) = none := by
  cases hrow : rowOf (opField w) with
  | none => simp [decode_of_rowOf_none hrow]
  | some row =>
    rw [decode_of_rowOf_some hrow]
    split <;> simp

/-- A word of a listed OP is refused exactly for a field that is not 0 and must be (R107). -/
theorem decode_eq_reservedBits_iff {w : Word} {row : Row} (h : rowOf (opField w) = some row) :
    decode w = .reject .reservedBits ↔ ¬(rsvField w = 0 ∧ row.accepts (regField w) (argField w) = true) := by
  rw [decode_of_rowOf_some h]
  split
  case isTrue hfields => simp only [reduceCtorEq, hfields, and_self, not_true]
  case isFalse hfields => exact iff_of_true rfl hfields

/-- A word decodes to a command exactly when its fields are those the command is encoded with. -/
theorem decode_eq_command_iff (w : Word) (i : Instr) :
    decode w = .command i ↔
      opField w = i.opcode ∧ regField w = i.regOperand ∧ argField w = i.argOperand ∧ rsvField w = 0 := by
  constructor
  · intro h
    cases hrow : rowOf (opField w) with
    | none => simp [decode_of_rowOf_none hrow] at h
    | some row =>
      obtain ⟨j, hop, rfl⟩ := exists_instr_of_rowOf hrow
      rw [decode_of_rowOf_some hrow] at h
      split at h
      case isTrue hfields =>
        obtain ⟨hrsv, haccepts⟩ := hfields
        obtain rfl := Decoded.command.inj h
        obtain ⟨hreg, harg⟩ := operands_row_build j haccepts
        exact ⟨hop.symm.trans (opcode_row_build j _ _).symm, hreg.symm, harg.symm, hrsv⟩
      case isFalse => cases h
  · rintro ⟨hop, hreg, harg, hrsv⟩
    have hrow : rowOf (opField w) = some i.row := hop ▸ rowOf_opcode i
    rw [decode_of_rowOf_some hrow, hreg, harg, if_pos ⟨hrsv, row_accepts_operands i⟩, row_build_operands]

/-- Settles O1: the fields of a command's word are the command's. -/
theorem decodeOfEncode : Obligations.DecodeOfEncode :=
  fun i => (decode_eq_command_iff _ i).2 (Laws.FieldsInPlace.of_encode i)

/-- Settles O2: an accepted word has the command's fields, and a word with RSV 0 is its fields. -/
theorem encodeOfDecode : Obligations.EncodeOfDecode := by
  intro w i h
  obtain ⟨hop, hreg, harg, hrsv⟩ := (decode_eq_command_iff w i).1 h
  calc encode i = commandWord (opField w) (regField w) (argField w) := by rw [encode, hop, hreg, harg]
    _ = w := commandWord_fields w hrsv

/-- Settles O3: the OP values without a row are the reserved ones. -/
theorem reservedOpcodesRefused : Obligations.ReservedOpcodesRefused :=
  fun w => (decode_eq_illegalOpcode_iff w).trans (rowOf_eq_none_iff (opField w))

/-- Settles O4: a word of a listed OP is refused exactly when RSV or a field that its row keeps at 0 is not. -/
theorem mustBeZeroFieldsRefused : Obligations.MustBeZeroFieldsRefused := by
  intro w hlisted
  cases hrow : rowOf (opField w) with
  | none => exact absurd ((decode_eq_illegalOpcode_iff w).2 hrow) hlisted
  | some row =>
    obtain ⟨i, hop, rfl⟩ := exists_instr_of_rowOf hrow
    rw [decode_eq_reservedBits_iff hrow, row_accepts_iff, hop]
    tauto

/-- Settles O5: nine closed words, evaluated. -/
theorem workedEncodingsDecode : Obligations.WorkedEncodingsDecode := by
  unfold Obligations.WorkedEncodingsDecode
  decide

end Sys2Proof
end

section
/-! The assembler (R105, R108): which operands each mnemonic takes, and what a list of operands gives. -/

namespace Sys2Proof.Machine

/-! ### Operands -/

section Operands
variable (line : Nat) {a b : Nat}

theorem byteOperand_of_le (command : Byte → Instr) (ha : a ≤ 255) :
    byteOperand line command [a] = .word (encode (command (BitVec.ofNat 8 a))) := if_pos ha

theorem byteOperand_of_gt (command : Byte → Instr) (ha : 255 < a) :
    byteOperand line command [a] = .refused line .operandRange := if_neg (by omega)

theorem twoByteOperands_of_le (command : Byte → Byte → Instr) (ha : a ≤ 255) (hb : b ≤ 255) :
    twoByteOperands line command [a, b] = .word (encode (command (BitVec.ofNat 8 a) (BitVec.ofNat 8 b))) :=
  if_pos ⟨ha, hb⟩

theorem twoByteOperands_of_gt (command : Byte → Byte → Instr) (h : 255 < a ∨ 255 < b) :
    twoByteOperands line command [a, b] = .refused line .operandRange := if_neg (by omega)

end Operands

/-! ### Mnemonics -/

/-- The mnemonics that are not in `plainCommands` (R108). -/
def operandMnemonics : List String := ["wrreg", "rdreg", "setmode", ".word"]

/-- A mnemonic that takes no operands is found in `plainCommands`, and unlisted ones are unknown (R108). -/
theorem assembleOperation_of_notMem {m : String} (line : Nat) (ops : List Nat) (h : m ∉ operandMnemonics) :
    assembleOperation line m ops =
      (plainCommands.lookup m).elim (.refused line .unknownMnemonic) fun i => plainOperands line i ops := by
  simp only [operandMnemonics, List.mem_cons, List.not_mem_nil, or_false, not_or] at h
  obtain ⟨hwrreg, hrdreg, hsetmode, hword⟩ := h
  rw [assembleOperation, if_neg hwrreg, if_neg hrdreg, if_neg hsetmode, if_neg hword]
  cases plainCommands.lookup m <;> rfl

theorem assembleOperation_transfer {p : String × (Byte → Byte → Instr)}
    (hp : p ∈ [("wrreg", Instr.wrreg), ("rdreg", Instr.rdreg)]) (line : Nat) (ops : List Nat) :
    assembleOperation line p.1 ops = twoByteOperands line p.2 ops := by
  simp only [List.mem_cons, List.not_mem_nil, or_false] at hp
  obtain rfl | rfl := hp <;> rfl

theorem assembleOperation_setmode (line : Nat) (ops : List Nat) :
    assembleOperation line "setmode" ops = byteOperand line .setmode ops := rfl

/-- No mnemonic is listed twice. -/
theorem lookup_plainCommands :
    ∀ p ∈ plainCommands, p.1 ∉ operandMnemonics ∧ plainCommands.lookup p.1 = some p.2 := by decide

theorem assembleOperation_plain {p : String × Instr} (hp : p ∈ plainCommands) (line : Nat) (ops : List Nat) :
    assembleOperation line p.1 ops = plainOperands line p.2 ops := by
  obtain ⟨hnotMem, hlookup⟩ := lookup_plainCommands p hp
  rw [assembleOperation_of_notMem line ops hnotMem, hlookup, Option.elim_some]

theorem assembleOperation_unknown {m : String} (hm : m ∉ operandMnemonics) (hplain : ∀ p ∈ plainCommands, m ≠ p.1)
    (line : Nat) (ops : List Nat) : assembleOperation line m ops = .refused line .unknownMnemonic := by
  have hlookup : plainCommands.lookup m = none := List.lookup_eq_none_iff.2 fun p hp => by simpa using hplain p hp
  rw [assembleOperation_of_notMem line ops hm, hlookup, Option.elim_none]

/-- Settles O58: each mnemonic's operands are read by their count, and then by their range (log 27). -/
theorem assemblerEmitsCommandWords : Obligations.AssemblerEmitsCommandWords := by
  intro line a b c ops
  refine ⟨fun p hp => ?_, ?_, ?_, ?_, ?_, fun p hp => ?_, fun m hm hplain => assembleOperation_unknown hm hplain line ops⟩
  · simp only [assembleOperation_transfer hp]
    exact ⟨twoByteOperands_of_le line p.2, twoByteOperands_of_gt line p.2, rfl, rfl, rfl⟩
  · exact byteOperand_of_le line .setmode
  · exact byteOperand_of_gt line .setmode
  · exact assembleOperation_setmode line []
  · exact assembleOperation_setmode line (a :: b :: ops)
  · simp only [assembleOperation_plain hp]
    exact ⟨rfl, rfl⟩

end Sys2Proof.Machine
end

section
/-! The raw path (R109): RDREG leaves the device's bytes in RXBUF, so that a decoder command then computes from them what the
field's accessor computes from its own read. -/

namespace Sys2Proof.Machine

/-! ### Decoding a buffer whose cells hold values -/

theorem State.requireValue_true (s : State) : s.requireValue true = s := by
  simp [State.requireValue, State.setModelFaults, ModelFaults.missing]

theorem State.knownNumber_true (s : State) : s.knownNumber true = s := by simp [State.knownNumber]

theorem State.knownLetter_true (s : State) : s.knownLetter true = s := by simp [State.knownLetter]

/-- DECCOORD of six cells that hold values writes their coordinate (R141). -/
theorem decodeCoordinateBuffer_of_take {p : State} {bytes : List Byte} (hlength : bytes.length = 6)
    (htake : p.rxbuf.take 6 = bytes.map .of) : decodeCoordinateBuffer p = writeCoordinate bytes p := by
  obtain ⟨hvalid, hbits⟩ := payload_of_take (hlength ▸ htake)
  rw [hlength] at hvalid hbits
  have hcell := (cellsValid_iff _ _).1 hvalid
  have hnumber : cellsValid p.rxbuf 5 = true := (cellsValid_iff _ _).2 fun i hi => hcell i (by omega)
  rw [decodeCoordinateBuffer, hbits, hvalid, hnumber, hcell 5 (by decide), State.requireValue_true,
    State.knownNumber_true, State.knownLetter_true]

/-- DECTRIPLE of three cells that hold values writes their scaled triple (R144). -/
theorem decodeTripleBuffer_of_take {p : State} {bytes : List Byte} (hlength : bytes.length = 3)
    (htake : p.rxbuf.take 3 = bytes.map .of) : decodeTripleBuffer p = writeTriple bytes p := by
  obtain ⟨hvalid, hbits⟩ := payload_of_take (hlength ▸ htake)
  rw [hlength] at hvalid hbits
  rw [decodeTripleBuffer, hbits, hvalid, State.requireValue_true, State.knownNumber_true]

/-! ### The two paths -/

theorem take_overlay {new cells : List (Slot 8)} (h : new.length ≤ cells.length) :
    (overlay new cells).take new.length = new := by
  induction new generalizing cells with
  | nil => simp
  | cons c cs ih => cases cells with
    | nil => simp at h
    | cons d rest => simpa [overlay] using ih (by simpa using h)

/-- What `write` does to the other registers does not depend on STATUS and RXBUF, which it keeps. -/
structure IgnoresStatusAndRxbuf (write : State → State) : Prop where
  status : ∀ s, (write s).status = s.status
  commutes : ∀ cells st s, write ((s.setRxbuf cells).setStatus st) = ((write s).setRxbuf cells).setStatus st

theorem writeCoordinate_ignores (bytes : List Byte) : IgnoresStatusAndRxbuf (writeCoordinate bytes) :=
  ⟨fun _ => rfl, fun _ _ _ => rfl⟩

theorem writeTriple_ignores (bytes : List Byte) : IgnoresStatusAndRxbuf (writeTriple bytes) :=
  ⟨fun _ => rfl, fun _ _ _ => rfl⟩

/-- The prologue of the command after RDREG finds what RDREG left, STATUS apart. -/
theorem prologue_epilogue_setRxbuf (cells : List (Slot 8)) (p : State) :
    prologue (epilogue (p.setRxbuf cells)) = (p.setRxbuf cells).setStatus p.status.completed.cleared := rfl

/-- A decoder that does to RXBUF's cells what the query does to its read's bytes ends as the query does, RXBUF apart. -/
theorem rawPathAgrees_of_bodies {i d : Instr} {reg n : Byte} {decoded : List Byte → State → State}
    {dflt decodeBuffer : State → State} (hquery : bodyOf i = query reg n.toNat decoded dflt)
    (hdecoder : bodyOf d = fun p => some (decodeBuffer p)) (hpos : 1 ≤ n.toNat) (hmax : n.toNat ≤ 6)
    (hrange : reg.toNat + n.toNat ≤ 256) (hignores : ∀ bytes, IgnoresStatusAndRxbuf (decoded bytes))
    (hbuffer : ∀ (p : State) (bytes : List Byte), bytes.length = n.toNat → p.rxbuf.take n.toNat = bytes.map .of →
      decodeBuffer p = decoded bytes p) : RawPathAgrees i d reg n := by
  intro s bytes hready hsized hlegal hanswer
  obtain ⟨-, hrx⟩ := hsized
  have hfits : n.toNat ≤ s.cfg.maxXfer := by
    simp only [Config.legal, Bool.and_eq_true, decide_eq_true_eq] at hlegal
    omega
  have hlength : bytes.length = n.toNat := readAnswer_length hanswer
  have htake : (overlay (bytes.map .of) s.rxbuf).take n.toNat = bytes.map .of := by
    rw [← hlength, ← List.length_map (as := bytes) Slot.of]
    exact take_overlay (by rw [List.length_map]; omega)
  have hread := exec_rdreg_of_ok hready ((transferFault_eq_none_iff _ _ _).2 ⟨hpos, hfits, hrange⟩) hanswer
  have haccessor := exec_query_of_ok hquery hready hanswer
  refine ⟨_, _, _, hread, exec_of_body hready (congrFun hdecoder _), haccessor, ?_⟩
  rw [prologue_epilogue_setRxbuf, hbuffer _ bytes hlength htake, (hignores bytes).commutes]
  refine ⟨rfl, rfl, rfl, ⟨rfl, rfl, rfl⟩, ?_, rfl, rfl, fun _ => rfl⟩
  simp only [epilogue_eq, State.setStatus_status, (hignores bytes).status]
  rfl

theorem rawPathAgrees_coordinate {i : Instr} {reg : Byte} {dflt : State → State}
    (hquery : bodyOf i = query reg 6 writeCoordinate dflt) (hrange : reg.toNat + 6 ≤ 256) :
    RawPathAgrees i .deccoord reg 6 :=
  rawPathAgrees_of_bodies hquery rfl (by decide) (by decide) hrange writeCoordinate_ignores
    fun _ _ => decodeCoordinateBuffer_of_take

theorem rawPathAgrees_triple {i : Instr} {reg : Byte} {dflt : State → State}
    (hquery : bodyOf i = query reg 3 writeTriple dflt) (hrange : reg.toNat + 3 ≤ 256) :
    RawPathAgrees i .dectriple reg 3 :=
  rawPathAgrees_of_bodies hquery rfl (by decide) (by decide) hrange writeTriple_ignores
    fun _ _ => decodeTripleBuffer_of_take

/-- Settles O39: each accessor queries the register of its field. -/
theorem rawPathAgreesWithAccessors : Obligations.RawPathAgreesWithAccessors :=
  ⟨rawPathAgrees_coordinate rfl (by decide), rawPathAgrees_coordinate rfl (by decide),
    rawPathAgrees_triple rfl (by decide), rawPathAgrees_triple rfl (by decide), rawPathAgrees_triple rfl (by decide)⟩

end Sys2Proof.Machine
end

section
/-! Every turn ends in a next state (R133, R210, R212, R224): no agent's turn answers a fault or a refusal. -/

namespace Sys2Proof.Machine

/-- The command frame always ends in a next state (R33). -/
theorem exists_next_command (body : State → Option State) (s : State) : ∃ t, command body s = .next t := ⟨_, rfl⟩

theorem exists_next_exec (i : Instr) (s : State) : ∃ t, exec i s = .next t := by
  rw [exec_eq_command]
  exact exists_next_command (bodyOf i) s

/-- A command and a refused word both end in a next state (R210, R212). -/
theorem exists_next_execute (s : State) : ∃ t, execute s = .next t := by
  unfold execute
  split
  · exact exists_next_exec _ s
  · exact exists_next_command _ s

theorem exists_next_engineTurn (s : State) : ∃ t, engineTurn s = .next t := by
  unfold engineTurn
  split
  · exact exists_next_execute s
  · exact ⟨s, rfl⟩

theorem exists_next_takeTurn (turn : Turn) (s : State) : ∃ t, takeTurn turn s = .next t := by
  cases turn with
  | host a => exact ⟨hostAction a s, rfl⟩
  | engine => exact exists_next_engineTurn s
  | reset initOk => exact ⟨blockReset initOk s, rfl⟩

/-- Settles O9: a step is the engine's Execute or the turn that is next, and each has a next state. -/
theorem everyStepHasANextState : Obligations.EveryStepHasANextState := by
  intro s
  unfold step nextTurn
  split
  · exact exists_next_engineTurn s
  · split
    · exact exists_next_execute s
    · exact exists_next_takeTurn _ _

end Sys2Proof.Machine
end

section
/-! The raw transactions when there is nothing to send or nothing arrives (R130, R131, R134, R218): a payload cell that holds ⊥,
and a read that fails. -/

namespace Sys2Proof.Machine

/-! ### A payload without value -/

theorem State.requireValue_false (s : State) :
    s.requireValue false = { s with modelFaults := { s.modelFaults with noValue := true } } := by
  simp [State.requireValue, State.setModelFaults, ModelFaults.missing]

theorem cellsValid_eq_false {cells : List (Slot 8)} {n i : Nat} (hi : i < n) (hcell : (cellAt cells i).valid = false) :
    cellsValid cells n = false := by
  rw [Bool.eq_false_iff, Ne, cellsValid_iff]
  intro hall
  exact Bool.false_ne_true (hcell.symm.trans (hall i hi))

theorem rawWrite_of_missing {len : Byte} {s : State} (h : cellsValid s.txbuf len.toNat = false) (reg : Byte) :
    rawWrite reg len s = some (s.requireValue false) := by
  simp [rawWrite, h]

/-- Settles O15: a payload with a cell that holds ⊥ is recorded instead of sent, and STATUS ends as a success's. -/
theorem wrregOfMissingValueRecordsNoValue : Obligations.WrregOfMissingValueRecordsNoValue := by
  intro s reg len i hready hpos hmax hrange hi hcell
  have hpassed : transferFault (prologue s).cfg.maxXfer reg len = none :=
    (transferFault_eq_none_iff _ _ _).2 ⟨hpos, hmax, hrange⟩
  have hmissing : cellsValid (prologue s).txbuf len.toNat = false := cellsValid_eq_false hi hcell
  have hbody : bodyOf (.wrreg reg len) (prologue s) = some ((prologue s).requireValue false) := by
    rw [bodyOf_wrreg hpassed, rawWrite_of_missing hmissing]
  have hstatus : s.status.cleared.completed = ⟨false, true, false, false, false, false, 0⟩ :=
    Status.cleared_completed hready
  rw [exec_of_body hready hbody, State.requireValue_false, ← hstatus]
  rfl

/-! ### A read that fails -/

/-- RDREG on an `Err` answer (R131). -/
theorem exec_rdreg_of_err {s : State} {reg len : Byte} (hready : s.status.ready = true)
    (hpassed : transferFault s.cfg.maxXfer reg len = none) (h : s.readAnswer reg len.toNat = some .err) :
    exec (.rdreg reg len) s = .next (epilogue ((((prologue s).afterRead reg len.toNat .err).setRxbuf
      (overlay ((freeBytes s.draws len.toNat).map .invalid) s.rxbuf)).setStatus s.status.cleared.failed)) := by
  refine exec_of_body hready ?_
  rw [bodyOf_rdreg (s := prologue s) hpassed, rawRead, memRead_of_answer (s := prologue s) h]
  rfl

theorem cellAt_map_invalid (bytes : List Byte) (i : Nat) : (cellAt (bytes.map .invalid) i).valid = false := by
  by_cases h : i < bytes.length <;> simp [cellAt, h]

/-- Settles O17: RDREG is one failed read, whose cells without value lie over the leading cells of RXBUF. -/
theorem failedRdregInvalidatesCells : Obligations.FailedRdregInvalidatesCells := by
  intro s reg len hready hpos hmax hrange hsized hanswer
  have hexec := exec_rdreg_of_err hready ((transferFault_eq_none_iff _ _ _).2 ⟨hpos, hmax, hrange⟩) hanswer
  have heffect := exec_effect hexec
  obtain ⟨-, hrx⟩ := hsized
  refine ⟨_, hexec, fun i hi => ?_, heffect.cells, length_overlay _ _, toWord_afterWrite .err hready, rfl,
    ⟨heffect.rational rfl, heffect.letter rfl, heffect.fields rfl⟩, fun _ => rfl, rfl, rfl, heffect.base.frame, rfl⟩
  have hlength : ((freeBytes s.draws len.toNat).map Slot.invalid).length = len.toNat := by
    rw [List.length_map, length_freeBytes]
  have hcell : cellAt (overlay ((freeBytes s.draws len.toNat).map .invalid) s.rxbuf) i =
      cellAt ((freeBytes s.draws len.toNat).map .invalid) i :=
    cellAt_overlay_inside _ _ _ (by omega) (by omega)
  exact (congrArg Slot.valid hcell).trans (cellAt_map_invalid _ i)

end Sys2Proof.Machine
end

section
/-! What a command adds to the history (R55): nothing, or one transaction at DEV_ADDR, which after a control command's write is
followed by one settle (R132, R153, R170, R194). -/

namespace Sys2Proof.Machine

/-- The events that command `i` may add to the history, with DEV_ADDR `addr` and SETTLE_MS `ms`. -/
inductive CommandEvents (i : Instr) (addr : BitVec 7) (ms : Nat) : List Event → Prop where
  | none : CommandEvents i addr ms []
  | write (reg : Byte) (bytes : List Byte) (r : WriteResult) (transacts : i.isDecoder = false) :
      CommandEvents i addr ms [.busWrite addr reg bytes r]
  | read (reg : Byte) (n : Nat) (r : ReadResult) (transacts : i.isDecoder = false) :
      CommandEvents i addr ms [.busRead addr reg n r]
  | control (reg : Byte) (bytes : List Byte) (r : WriteResult) (transacts : i.isDecoder = false) :
      CommandEvents i addr ms [.busWrite addr reg bytes r, .settle ms]

/-- `t`'s history is that of `s` with events that command `i` may add. -/
def EventsAdded (i : Instr) (s t : State) : Prop :=
  ∃ events, CommandEvents i s.devAddr s.cfg.settleMs events ∧ t.history = s.history ++ events

section Bodies
variable {i : Instr} {s t : State}

theorem eventsAdded_of_same (h : t.history = s.history) : EventsAdded i s t :=
  ⟨[], .none, by rw [h, List.append_nil]⟩

/-- A query adds its read when the writers of its result add nothing (R180). -/
theorem eventsAdded_query {reg : Byte} {n : Nat} {decoded : List Byte → State → State} {dflt : State → State}
    (h : query reg n decoded dflt s = some t) (transacts : i.isDecoder = false)
    (hdecoded : ∀ bytes u, (decoded bytes u).history = u.history) (hdflt : ∀ u, (dflt u).history = u.history) :
    EventsAdded i s t := by
  obtain ⟨bytes, -, rfl⟩ | ⟨-, rfl⟩ := query_cases h
  · exact ⟨_, .read reg n (.ok bytes) transacts, hdecoded bytes _⟩
  · exact ⟨_, .read reg n .err transacts, hdflt _⟩

/-- A control command adds its write and the settle after it (R168, R169). -/
theorem eventsAdded_controlWrite {reg value : Byte} (h : controlWrite reg value s = some t)
    (transacts : i.isDecoder = false) : EventsAdded i s t := by
  obtain ⟨r, -, rfl⟩ := controlWrite_cases h
  refine ⟨_, .control reg [value] r transacts, ?_⟩
  simp [settle, noteWrite_eq]

theorem eventsAdded_rawWrite {reg len : Byte} (h : rawWrite reg len s = some t) : EventsAdded (.wrreg reg len) s t := by
  obtain ⟨-, rfl⟩ | ⟨-, r, u, -, rfl, rfl⟩ := rawWrite_cases h
  · exact eventsAdded_of_same rfl
  · refine ⟨_, .write reg (cellBits s.txbuf len.toNat) r rfl, ?_⟩
    simp [noteWrite_eq]

theorem eventsAdded_rawRead {reg len : Byte} (h : rawRead reg len s = some t) : EventsAdded (.rdreg reg len) s t := by
  obtain ⟨bytes, -, rfl⟩ | ⟨-, rfl⟩ := rawRead_cases h
  · exact ⟨_, .read reg len.toNat (.ok bytes) rfl, rfl⟩
  · exact ⟨_, .read reg len.toNat .err rfl, rfl⟩

/-- A body makes one transaction at most, and a decoder's none (R153). -/
theorem BodyResult.eventsAdded (h : BodyResult i s t) : EventsAdded i s t := by
  cases h with
  | fault | deccoord | dectriple | rejected => exact eventsAdded_of_same rfl
  | wrreg _ _ _ _ _ body => exact eventsAdded_rawWrite body
  | rdreg _ _ _ _ _ body => exact eventsAdded_rawRead body
  | control _ _ _ _ _ which body =>
    exact eventsAdded_controlWrite body (by obtain ⟨rfl, -⟩ | rfl | rfl | rfl | rfl := which <;> rfl)
  | count _ _ _ _ which body =>
    exact eventsAdded_query body (by obtain rfl | rfl := which <;> rfl) (fun _ _ => rfl) fun _ => rfl
  | date _ _ body
  | time _ _ body => exact eventsAdded_query body rfl (fun _ _ => rfl) fun _ => rfl
  | coordinate _ _ _ _ _ which body =>
    exact eventsAdded_query body (by obtain rfl | rfl := which <;> rfl) (fun _ _ => rfl) fun _ => rfl
  | triple _ _ _ _ which body =>
    exact eventsAdded_query body (by obtain rfl | rfl | rfl := which <;> rfl) (fun _ _ => rfl) fun _ => rfl

end Bodies

/-- The prologue and the epilogue add no event (R110, R111). -/
theorem exec_eventsAdded {i : Instr} {s t : State} (h : exec i s = .next t) : EventsAdded i s t := by
  obtain ⟨-, rfl⟩ | ⟨-, rfl⟩ | ⟨-, u, hu, rfl⟩ := exec_cases h
  · exact eventsAdded_of_same rfl
  · exact eventsAdded_of_same rfl
  · exact (bodyOf_cases hu).eventsAdded

/-- Settles O31: the events a command may add are none, or one transaction with at most the settle after it. -/
theorem atMostOneTransactionPerCommand : Obligations.AtMostOneTransactionPerCommand := by
  intro i s t h
  obtain ⟨events, hevents, hhistory⟩ := exec_eventsAdded h
  cases hevents with
  | none => exact .inl (by simpa using hhistory)
  | write reg bytes r transacts =>
    exact .inr ⟨transacts, _, rfl, .inl ⟨reg, bytes, r, rfl⟩, .inl hhistory⟩
  | read reg n r transacts =>
    exact .inr ⟨transacts, _, rfl, .inr ⟨reg, n, r, rfl⟩, .inl hhistory⟩
  | control reg bytes r transacts =>
    exact .inr ⟨transacts, _, rfl, .inl ⟨reg, bytes, r, rfl⟩, .inr hhistory⟩

end Sys2Proof.Machine
end

section
/-! The decoder commands and the decoding queries (R141 to R145, R148, R149, R184 to R190): their results are decoded from RXBUF or
from the bytes of one read, and nothing else is written. -/

namespace Sys2Proof.Machine

/-! ### Numerators -/

/-- Five unsigned terms add up to 0 only if each byte is 0 (R143). -/
theorem coordinateNumerator_eq_zero_iff (b : List Byte) :
    coordinateNumerator b = 0 ↔ ∀ i, i < 5 → byteAt b i = 0 := by
  have hbytes : coordinateNumerator b = 0 ↔ (byteAt b 0).toNat = 0 ∧ (byteAt b 1).toNat = 0 ∧ (byteAt b 2).toNat = 0 ∧
      (byteAt b 3).toNat = 0 ∧ (byteAt b 4).toNat = 0 := by
    unfold coordinateNumerator be24
    omega
  rw [hbytes]
  constructor
  · rintro ⟨h0, h1, h2, h3, h4⟩ i hi
    apply BitVec.eq_of_toNat_eq
    interval_cases i <;> assumption
  · intro hzero
    simp [hzero]

/-- Settles O21: the bounds are below 2^32, and the closed payloads evaluate to the numbers given. -/
theorem numeratorsFitTheirBounds : Obligations.NumeratorsFitTheirBounds := by
  refine ⟨fun bytes => ?_, fun _ => ?_, fun bytes => ?_, by decide⟩
  · have hle := coordinateNumerator_le bytes
    exact ⟨hle, (BitVec.toNat_ofNat _ 32).trans (Nat.mod_eq_of_lt (hle.trans_lt (by decide))),
      coordinateNumerator_eq_zero_iff bytes⟩
  · simp [coordinateNumerator, byteAt, be24]
  · have hle := tripleNumerator_le bytes
    exact ⟨hle, (BitVec.toNat_ofNat _ 32).trans (Nat.mod_eq_of_lt (hle.trans_lt (by decide)))⟩

/-! ### Writers of results -/

/-- `t` is `s` but for the result registers. -/
structure SameOutsideResults (s t : State) : Prop where
  frame : CommandFrame s t
  status : t.status = s.status
  rxbuf : t.rxbuf = s.rxbuf
  settleOwed : t.settleOwed = s.settleOwed
  modelFaults : t.modelFaults = s.modelFaults
  history : t.history = s.history
  device : t.device = s.device
  txns : t.txns = s.txns

theorem sameOutsideResults_writeCoordinate (b : List Byte) (s : State) : SameOutsideResults s (writeCoordinate b s) :=
  ⟨⟨rfl, rfl, rfl, rfl, rfl, rfl⟩, rfl, rfl, rfl, rfl, rfl, rfl, rfl⟩

theorem sameOutsideResults_writeTriple (b : List Byte) (s : State) : SameOutsideResults s (writeTriple b s) :=
  ⟨⟨rfl, rfl, rfl, rfl, rfl, rfl⟩, rfl, rfl, rfl, rfl, rfl, rfl, rfl⟩

theorem sameOutsideResults_setFields (f0 : Nat) (f1 f2 : Byte) (s : State) :
    SameOutsideResults s (s.setFields f0 f1 f2) :=
  ⟨⟨rfl, rfl, rfl, rfl, rfl, rfl⟩, rfl, rfl, rfl, rfl, rfl, rfl, rfl⟩

/-- RXBUF decoded as a coordinate: the check for values apart, only results are written (R141). -/
theorem sameOutsideResults_decodeCoordinateBuffer (s : State) :
    SameOutsideResults (s.requireValue (cellsValid s.rxbuf 6)) (decodeCoordinateBuffer s) :=
  ⟨⟨rfl, rfl, rfl, rfl, rfl, rfl⟩, rfl, rfl, rfl, rfl, rfl, rfl, rfl⟩

theorem sameOutsideResults_decodeTripleBuffer (s : State) :
    SameOutsideResults (s.requireValue (cellsValid s.rxbuf 3)) (decodeTripleBuffer s) :=
  ⟨⟨rfl, rfl, rfl, rfl, rfl, rfl⟩, rfl, rfl, rfl, rfl, rfl, rfl, rfl⟩

/-! ### Decoder commands -/

/-- What a decoder command leaves besides its results: STATUS 0x002, NoValue recorded unless its cells are `valid`, and the rest
as it was (R153, R218; log 4). -/
structure DecoderOutcome (valid : Bool) (s t : State) : Prop where
  status : t.status.toWord = 0x002
  modelFaults : t.modelFaults = s.modelFaults.missing (!valid)
  rxbuf : t.rxbuf = s.rxbuf
  history : t.history = s.history
  device : SameDevice s t
  settleOwed : t.settleOwed = s.settleOwed
  txns : t.txns = s.txns
  frame : CommandFrame s t

/-- A body that checks its cells and writes results leaves the outcome, between prologue and epilogue. -/
theorem decoderOutcome_of_sameOutsideResults {valid : Bool} {s u : State} (hready : s.status.ready = true)
    (h : SameOutsideResults ((prologue s).requireValue valid) u) : DecoderOutcome valid s (epilogue u) where
  status := (congrArg (fun st => st.completed.toWord) h.status).trans (toWord_success hready)
  modelFaults := h.modelFaults
  rxbuf := h.rxbuf
  history := h.history
  device a := congrArg (Memory.read · a) h.device
  settleOwed := h.settleOwed
  txns := h.txns
  frame := { h.frame with }

/-- NoValue is added when a cell lacks a value, and nothing else. -/
theorem DecoderOutcome.missing {s t : State} (h : DecoderOutcome false s t) :
    t.modelFaults = { s.modelFaults with noValue := true } := by
  simp [h.modelFaults, ModelFaults.missing]

/-- Nothing is recorded when every cell holds a value. -/
theorem DecoderOutcome.recordKept {s t : State} (h : DecoderOutcome true s t) : t.modelFaults = s.modelFaults := by
  simp [h.modelFaults, ModelFaults.missing]

/-- DECCOORD on a ready block, whatever RXBUF holds (R141, R142). -/
theorem exec_deccoord {s : State} (hready : s.status.ready = true) :
    ∃ t, exec .deccoord s = .next t ∧ DecoderOutcome (cellsValid s.rxbuf 6) s t ∧
      t.resNum = (Slot.of (BitVec.ofNat 32 (coordinateNumerator (cellBits s.rxbuf 6)))).known (cellsValid s.rxbuf 5) ∧
      t.resDen = .of 6000000 ∧
      t.resChr = (Slot.of (coordinateLetter (cellBits s.rxbuf 6))).known (cellAt s.rxbuf 5).valid ∧ SameFields s t :=
  ⟨_, exec_of_body hready rfl,
    decoderOutcome_of_sameOutsideResults hready (sameOutsideResults_decodeCoordinateBuffer (prologue s)),
    rfl, rfl, rfl, rfl, rfl, rfl⟩

/-- DECTRIPLE on a ready block, whatever RXBUF holds (R144, R145). -/
theorem exec_dectriple {s : State} (hready : s.status.ready = true) :
    ∃ t, exec .dectriple s = .next t ∧ DecoderOutcome (cellsValid s.rxbuf 3) s t ∧
      t.resNum = (Slot.of (BitVec.ofNat 32 (tripleNumerator (cellBits s.rxbuf 3)))).known (cellsValid s.rxbuf 3) ∧
      t.resDen = .of 100 ∧ t.resChr = s.resChr ∧ SameFields s t :=
  ⟨_, exec_of_body hready rfl,
    decoderOutcome_of_sameOutsideResults hready (sameOutsideResults_decodeTripleBuffer (prologue s)),
    rfl, rfl, rfl, rfl, rfl, rfl⟩

/-- Settles O18: six cells that hold values are the payload decoded. -/
theorem deccoordDecodesBuffer : Obligations.DeccoordDecodesBuffer := by
  intro s deg min f2 f1 f0 chr hready htake
  obtain ⟨hvalid, hbits⟩ : cellsValid s.rxbuf 6 = true ∧ cellBits s.rxbuf 6 = [deg, min, f2, f1, f0, chr] :=
    payload_of_take (bytes := [deg, min, f2, f1, f0, chr]) htake
  have hcell := (cellsValid_iff _ _).1 hvalid
  have hnumber : cellsValid s.rxbuf 5 = true := (cellsValid_iff _ _).2 fun i hi => hcell i (Nat.lt_succ_of_lt hi)
  have hletter : (cellAt s.rxbuf 5).valid = true := hcell 5 (by decide)
  obtain ⟨t, hexec, hout, hnum, hden, hchr, hfields⟩ := exec_deccoord hready
  rw [hvalid] at hout
  rw [hbits, hnumber, Slot.known_true] at hnum
  rw [hbits, hletter, Slot.known_true] at hchr
  exact ⟨t, hexec, hnum, hden, hchr, hout.status, hfields, hout.rxbuf, hout.history, hout.device, hout.settleOwed,
    hout.recordKept, hout.txns, hout.frame⟩

/-- Settles O19: three cells that hold values are the payload decoded. -/
theorem dectripleDecodesBuffer : Obligations.DectripleDecodesBuffer := by
  intro s hi lo frac hready htake
  obtain ⟨hvalid, hbits⟩ : cellsValid s.rxbuf 3 = true ∧ cellBits s.rxbuf 3 = [hi, lo, frac] :=
    payload_of_take (bytes := [hi, lo, frac]) htake
  obtain ⟨t, hexec, hout, hnum, hden, hchr, hfields⟩ := exec_dectriple hready
  rw [hvalid] at hout hnum
  rw [hbits, Slot.known_true] at hnum
  exact ⟨t, hexec, hnum, hden, hout.status, hchr, hfields, hout.rxbuf, hout.history, hout.device, hout.settleOwed,
    hout.recordKept, hout.txns, hout.frame⟩

/-- Settles O20: a cell without value fails the check of all the cells, and each register asks for the cells it is computed
from. -/
theorem decoderOfMissingValueRecordsNoValue : Obligations.DecoderOfMissingValueRecordsNoValue := by
  intro s i hready hcell
  constructor
  · intro hi
    obtain ⟨t, hexec, hout, hnum, hden, hchr, hfields⟩ := exec_deccoord hready
    rw [cellsValid_eq_false hi hcell] at hout
    have hletter : coordinateLetter (cellBits s.rxbuf 6) = (cellAt s.rxbuf 5).bits := byteAt_cellBits _ (by decide)
    refine ⟨t, hexec, hout.missing, ?_, fun _ => congrArg Slot.bits hnum, hden, congrArg Slot.valid hchr,
      fun _ => (congrArg Slot.bits hchr).trans hletter, hout.status, hout.history, hfields, hout.rxbuf, hout.device,
      hout.settleOwed, hout.txns, hout.frame⟩
    rw [hnum]
    exact cellsValid_iff _ _
  · intro hi
    obtain ⟨t, hexec, hout, hnum, hden, hchr, hfields⟩ := exec_dectriple hready
    rw [cellsValid_eq_false hi hcell] at hout hnum
    exact ⟨t, hexec, hout.missing, congrArg Slot.valid hnum, hden, hchr, hout.status, hout.history, hfields, hout.rxbuf,
      hout.device, hout.settleOwed, hout.txns, hout.frame⟩

/-! ### Queries -/

/-- A query that writes only results on an `Ok` answer ends with STATUS 0x002, its read in the history and the query's frame
kept (R180, R194). -/
theorem query_completes {reg : Byte} {n : Nat} {bytes : List Byte} {s u : State} (hready : s.status.ready = true)
    (h : SameOutsideResults ((prologue s).afterRead reg n (.ok bytes)) u) :
    (epilogue u).status.toWord = 0x002 ∧ (epilogue u).history = s.history ++ [.busRead s.devAddr reg n (.ok bytes)] ∧
      QueryFrame s (epilogue u) where
  left := (congrArg (fun st => st.completed.toWord) h.status).trans (toWord_success hready)
  right.left := h.history
  right.right :=
    { command := { h.frame with }
      rxbuf := h.rxbuf
      settleOwed := h.settleOwed
      device a := congrArg (Memory.read · a) h.device
      hazard := h.modelFaults
      oneTransaction := h.txns }

/-- A command whose body queries a coordinate returns it (R142). -/
theorem coordinateQuery_of_bodyOf {i : Instr} {reg : Byte} {dflt : State → State}
    (hbody : bodyOf i = query reg 6 writeCoordinate dflt) : CoordinateQuery i reg := by
  intro s deg min f2 f1 f0 chr hready hanswer
  obtain ⟨hstatus, hhistory, hframe⟩ := query_completes hready (sameOutsideResults_writeCoordinate _ _)
  exact ⟨_, exec_query_of_ok hbody hready hanswer, rfl, rfl, rfl, hstatus, hhistory, ⟨rfl, rfl, rfl⟩, hframe⟩

/-- A command whose body queries a scaled triple returns it (R145). -/
theorem tripleQuery_of_bodyOf {i : Instr} {reg : Byte} {dflt : State → State}
    (hbody : bodyOf i = query reg 3 writeTriple dflt) : TripleQuery i reg := by
  intro s hi lo frac hready hanswer
  obtain ⟨hstatus, hhistory, hframe⟩ := query_completes hready (sameOutsideResults_writeTriple _ _)
  exact ⟨_, exec_query_of_ok hbody hready hanswer, rfl, rfl, hstatus, hhistory, rfl, ⟨rfl, rfl, rfl⟩, hframe⟩

/-- Settles O27: latitude and longitude are coordinates, each queried at its own register. -/
theorem coordinateQueriesDecode : Obligations.CoordinateQueriesDecode :=
  ⟨coordinateQuery_of_bodyOf rfl, coordinateQuery_of_bodyOf rfl⟩

/-- Settles O28: altitude, course and speed are scaled triples, each queried at its own register. -/
theorem tripleQueriesDecode : Obligations.TripleQueriesDecode :=
  ⟨tripleQuery_of_bodyOf rfl, tripleQuery_of_bodyOf rfl, tripleQuery_of_bodyOf rfl⟩

/-- Settles O25: the date's four bytes go to the three fields, the first two as one big-endian year. -/
theorem getdateReturnsDate : Obligations.GetdateReturnsDate := by
  intro s yh yl m d hready hanswer
  obtain ⟨hstatus, hhistory, hframe⟩ := query_completes hready (sameOutsideResults_setFields _ _ _ _)
  exact ⟨_, exec_query_of_ok (i := .getdate) rfl hready hanswer, ⟨rfl, rfl, rfl, ⟨rfl, rfl⟩, rfl⟩, hstatus, hhistory,
    hframe⟩

/-- Settles O26: the time's three bytes go to the three fields, the hour zero-extended. -/
theorem gettimeReturnsTime : Obligations.GettimeReturnsTime := by
  intro s h m sec hready hanswer
  have hhour : Slot.of (BitVec.ofNat 16 h.toNat) = .of (h.setWidth 16) := congrArg Slot.of (BitVec.ofNat_toNat 16 h)
  obtain ⟨hstatus, hhistory, hframe⟩ := query_completes hready (sameOutsideResults_setFields _ _ _ _)
  exact ⟨_, exec_query_of_ok (i := .gettime) rfl hready hanswer, ⟨hhour, rfl, rfl, ⟨rfl, rfl⟩, rfl⟩, hstatus, hhistory,
    hframe⟩

end Sys2Proof.Machine
end

section
/-! A rejected SETMODE (R160, R167): the mode's range check stands before the write, and its failure is noted in
STATUS alone. -/

namespace Sys2Proof.Machine

/-- Outside the accepted modes are those below 1 and those above 7 (R160, R165). -/
theorem modeAccepted_eq_false_iff (mode : Byte) : modeAccepted mode = false ↔ mode.toNat < 1 ∨ 7 < mode.toNat := by
  rw [Bool.eq_false_iff, ne_eq, modeAccepted_iff]
  omega

/-- SETMODE of a mode not accepted sets REJECTED, with no write and no settle (R160, R167). -/
theorem bodyOf_setmode_of_not_accepted {mode : Byte} (h : modeAccepted mode = false) (p : State) :
    bodyOf (.setmode mode) p = some (p.setStatus p.status.refusedMode) := by
  simp [bodyOf, h]

/-- A command whose body raised REJECTED alone ends with READY and REJECTED, all else clear (R40, R110, R111). -/
theorem Status.cleared_refusedMode_completed {st : Status} (hready : st.ready = true) :
    st.cleared.refusedMode.completed = ⟨false, true, false, false, true, false, 0⟩ :=
  congrArg Status.refusedMode (Status.cleared_completed hready)

/-- Settles O23: the range check fails, so the body writes REJECTED alone between the prologue's and the epilogue's STATUS
writes. -/
theorem setmodeRejectsOtherModes : Obligations.SetmodeRejectsOtherModes := by
  intro s mode hready hmode
  have houtside : modeAccepted mode = false := (modeAccepted_eq_false_iff mode).2 hmode
  have hexec : exec (.setmode mode) s = .next (s.setStatus s.status.cleared.refusedMode.completed) :=
    exec_of_body hready (bodyOf_setmode_of_not_accepted houtside (prologue s))
  rw [hexec, Status.cleared_refusedMode_completed hready]
  rfl

end Sys2Proof.Machine
end

section
/-! The count queries and the defaults (R181 to R191): a query that answers writes its decoded byte, and one whose read fails
writes its documented default, each over a state that only the read has touched. -/

namespace Sys2Proof.Machine

theorem sameOutsideResults_setRational (num den : Nat) (s : State) : SameOutsideResults s (s.setRational num den) :=
  ⟨⟨rfl, rfl, rfl, rfl, rfl, rfl⟩, rfl, rfl, rfl, rfl, rfl, rfl, rfl⟩

theorem sameOutsideResults_defaultCoordinate (letter : Byte) (s : State) :
    SameOutsideResults s (defaultCoordinate letter s) :=
  ⟨⟨rfl, rfl, rfl, rfl, rfl, rfl⟩, rfl, rfl, rfl, rfl, rfl, rfl, rfl⟩

/-! ### Counts -/

/-- A command whose body queries a count returns the byte read, with no check of it (R182, R183, R193). -/
theorem countQuery_of_bodyOf {i : Instr} {reg : Byte} {dflt : State → State}
    (hbody : bodyOf i = query reg 1 writeCount dflt) : CountQuery i reg := by
  intro s b hready hanswer
  have hnum : Slot.of (BitVec.ofNat 32 b.toNat) = .of (b.setWidth 32) := congrArg Slot.of (BitVec.ofNat_toNat 32 b)
  obtain ⟨hstatus, hhistory, hframe⟩ := query_completes hready (sameOutsideResults_setRational _ _ _)
  exact ⟨_, exec_query_of_ok hbody hready hanswer, hnum, rfl, hstatus, hhistory, rfl, ⟨rfl, rfl, rfl⟩, hframe⟩

/-- Settles O24: mode and satellites are counts, each queried at its own register. -/
theorem countQueriesReturnTheByte : Obligations.CountQueriesReturnTheByte :=
  ⟨countQuery_of_bodyOf rfl, countQuery_of_bodyOf rfl⟩

/-! ### Defaults -/

/-- The state a query leaves whose read failed: the default written after the read, IOERR and DEFAULTED set (R181). -/
def State.defaulted (reg : Byte) (n : Nat) (dflt : State → State) (s : State) : State :=
  epilogue ((dflt ((prologue s).afterRead reg n .err)).setStatus s.status.cleared.substituted)

/-- A query on an `Err` answer (R181). -/
theorem exec_query_of_err {i : Instr} {reg : Byte} {n : Nat} {decoded : List Byte → State → State} {dflt : State → State}
    {s : State} (hbody : bodyOf i = query reg n decoded dflt) (hready : s.status.ready = true)
    (h : s.readAnswer reg n = some .err) : exec i s = .next (s.defaulted reg n dflt) := by
  refine exec_of_body hready ?_
  rw [hbody, query, memRead_of_answer (s := prologue s) h]
  rfl

/-- A query that substituted its default ends with STATUS 0x00E (R222). -/
theorem toWord_substituted {st : Status} (hready : st.ready = true) : st.cleared.substituted.completed.toWord = 0x00E :=
  congrArg (fun st => st.substituted.toWord) (Status.cleared_completed hready)

/-- A default that writes only results keeps the query's frame (R180, R194). -/
theorem queryFrame_defaulted {reg : Byte} {n : Nat} {dflt : State → State} (hdflt : ∀ p, SameOutsideResults p (dflt p))
    (s : State) : QueryFrame s (s.defaulted reg n dflt) :=
  have h := hdflt ((prologue s).afterRead reg n .err)
  { command := { h.frame with }
    rxbuf := h.rxbuf
    settleOwed := h.settleOwed
    device := fun a => congrArg (Memory.read · a) h.device
    hazard := h.modelFaults
    oneTransaction := h.txns }

/-- A command whose body is a query that writes only results answers a failed read with its default (R181). -/
theorem defaultedQuery_of_bodyOf {i : Instr} {reg : Byte} {n : Nat} {decoded : List Byte → State → State}
    {dflt : State → State} {result : State → State → Prop} (hbody : bodyOf i = query reg n decoded dflt)
    (hdflt : ∀ p, SameOutsideResults p (dflt p)) (hresult : ∀ s : State, result s (s.defaulted reg n dflt)) :
    DefaultedQuery i reg n result := fun s hready hanswer =>
  ⟨_, exec_query_of_err hbody hready hanswer, hresult s, toWord_substituted hready,
    (hdflt ((prologue s).afterRead reg n .err)).history, queryFrame_defaulted hdflt s⟩

section Kinds

variable {i : Instr} {reg : Byte} {n : Nat} {decoded : List Byte → State → State}

theorem defaultedQuery_rational {num den : Nat}
    (hbody : bodyOf i = query reg n decoded (State.setRational num den)) :
    DefaultedQuery i reg n (OnlyRational (BitVec.ofNat 32 num) (BitVec.ofNat 32 den)) :=
  defaultedQuery_of_bodyOf hbody (sameOutsideResults_setRational num den) fun _ => ⟨rfl, rfl, rfl, rfl, rfl, rfl⟩

theorem defaultedQuery_fields {f0 : Nat} {f1 f2 : Byte}
    (hbody : bodyOf i = query reg n decoded (State.setFields f0 f1 f2)) :
    DefaultedQuery i reg n (OnlyFields (BitVec.ofNat 16 f0) f1 f2) :=
  defaultedQuery_of_bodyOf hbody (sameOutsideResults_setFields f0 f1 f2) fun _ => ⟨rfl, rfl, rfl, ⟨rfl, rfl⟩, rfl⟩

theorem defaultedQuery_coordinate {letter : Byte}
    (hbody : bodyOf i = query reg n decoded (defaultCoordinate letter)) :
    DefaultedQuery i reg n (OnlyCoordinate 0 6000000 letter) :=
  defaultedQuery_of_bodyOf hbody (sameOutsideResults_defaultCoordinate letter) fun _ => ⟨rfl, rfl, rfl, rfl, rfl, rfl⟩

end Kinds

/-- Settles O29: each query's default is a rational, a date or time, or a coordinate with its letter. -/
theorem failedQueriesWriteDefaults : Obligations.FailedQueriesWriteDefaults :=
  ⟨defaultedQuery_rational rfl, defaultedQuery_rational rfl, defaultedQuery_fields rfl, defaultedQuery_fields rfl,
    defaultedQuery_coordinate rfl, defaultedQuery_coordinate rfl, defaultedQuery_rational rfl,
    defaultedQuery_rational rfl, defaultedQuery_rational rfl⟩

end Sys2Proof.Machine
end

section
/-! The buffers are no operands of control commands and queries (R49, R192): replacing the contents of TXBUF and RXBUF
commutes with each of them. -/

namespace Sys2Proof.Machine

/-- The state with other buffer contents. -/
def State.withBuffers (tx rx : List (Slot 8)) (s : State) : State := { s with txbuf := tx, rxbuf := rx }

/-- What the body does to the rest of the state does not depend on the buffers, which it keeps. -/
def IgnoresBuffers (body : State → Option State) : Prop :=
  ∀ tx rx p, body (p.withBuffers tx rx) = (body p).map (State.withBuffers tx rx)

/-- The command frame adds no use of the buffers to its body's (R110, R111). -/
theorem executed_withBuffers {body : State → Option State} (hbody : IgnoresBuffers body) (tx rx : List (Slot 8))
    (s : State) : executed body (s.withBuffers tx rx) = (executed body s).withBuffers tx rx := by
  have hprologue : body (prologue (s.withBuffers tx rx)) = (body (prologue s)).map (State.withBuffers tx rx) :=
    hbody tx rx (prologue s)
  have hready : (s.withBuffers tx rx).status.ready = s.status.ready := rfl
  rw [executed, executed, hprologue, hready]
  split
  · cases body (prologue s) <;> rfl
  · rfl

/-- A write's bytes and its settle come from elsewhere (R160 to R164). -/
theorem ignoresBuffers_controlWrite (reg value : Byte) : IgnoresBuffers (controlWrite reg value) := by
  intro tx rx p
  have hanswer : (p.withBuffers tx rx).writeAnswer = p.writeAnswer := rfl
  rw [controlWrite, controlWrite, memWrite_eq, memWrite_eq, hanswer]
  cases p.writeAnswer with
  | none => rfl
  | some r => cases r <;> rfl

/-- A query uses the buffers no more than what it writes on `Ok` and on `Err` does (R180, R181). -/
theorem ignoresBuffers_query {decoded : List Byte → State → State} {dflt : State → State} (reg : Byte) (n : Nat)
    (hdecoded : ∀ bytes tx rx p, decoded bytes (p.withBuffers tx rx) = (decoded bytes p).withBuffers tx rx)
    (hdflt : ∀ tx rx p, dflt (p.withBuffers tx rx) = (dflt p).withBuffers tx rx) :
    IgnoresBuffers (query reg n decoded dflt) := by
  intro tx rx p
  have hanswer : (p.withBuffers tx rx).readAnswer reg n = p.readAnswer reg n := rfl
  rw [query, query, memRead_eq, memRead_eq, hanswer]
  cases p.readAnswer reg n with
  | none => rfl
  | some r => cases r with
    | ok bytes => exact congrArg some (hdecoded bytes tx rx (p.afterRead reg n (.ok bytes)))
    | err =>
      exact congrArg (fun u => some (u.setStatus p.status.substituted)) (hdflt tx rx (p.afterRead reg n .err))

/-- Every control command and query ignores the buffers (R49, R192). -/
theorem bodyOf_ignoresBuffers {i : Instr} (hi : i.isAccessor = true) : IgnoresBuffers (bodyOf i) := by
  cases i with
  | wrreg | rdreg | deccoord | dectriple => cases hi
  | setmode mode =>
    cases hmode : modeAccepted mode with
    | true => exact bodyOf_setmode hmode ▸ ignoresBuffers_controlWrite regGnssMode mode
    | false =>
      intro tx rx p
      rw [bodyOf_setmode_of_not_accepted hmode, bodyOf_setmode_of_not_accepted hmode]
      rfl
  | pwron | pwroff | rgbon | rgboff => exact ignoresBuffers_controlWrite _ _
  | getmode | getsats | getdate | gettime | getlat | getlon | getalt | getcog | getsog =>
    exact ignoresBuffers_query _ _ (fun _ _ _ _ => rfl) fun _ _ _ => rfl

/-- Settles O35: the command's body ignores the buffers, and so does the frame around it. -/
theorem accessorsIgnoreTheBuffers : Obligations.AccessorsIgnoreTheBuffers := by
  intro i s t tx rx hi hexec
  rw [exec_eq_command, command] at hexec ⊢
  obtain rfl : executed (bodyOf i) s = t := Host.Outcome.next.inj hexec
  exact congrArg Host.Outcome.next (executed_withBuffers (bodyOf_ignoresBuffers hi) tx rx s)

end Sys2Proof.Machine
end

section
/-! Command faults (R210 to R223): NOT_READY before everything else, the decoder's causes, and format X's checks. Each writes STATUS
alone. -/

namespace Sys2Proof.Machine

/-! ### The command frame around a fault -/

/-- STATUS as a command that raised `c` leaves it (R41, R110, R111). -/
def Status.ofFault (ready : Bool) (c : Cause) : Status := ⟨false, ready, false, false, false, true, causeCode c⟩

/-- The prologue clears every flag but READY, and the epilogue clears BUSY (R110, R111). -/
theorem Status.cleared_faulted_completed (c : Cause) (st : Status) :
    (st.cleared.faulted c).completed = .ofFault st.ready c := rfl

/-- With READY = 0 no body is reached (R110, R215). -/
theorem command_of_notReady {s : State} (hready : s.status.ready = false) (body : State → Option State) :
    command body s = .next (s.setStatus (.ofFault false .notReady)) := by
  obtain ⟨-, h⟩ | ⟨h, -⟩ | ⟨h, -⟩ := executed_cases body s
  · exact congrArg Host.Outcome.next h
  all_goals simp [hready] at h

/-- With READY = 1 a body that raises `c` at once writes STATUS alone (R212). -/
theorem command_of_raised {s : State} {body : State → Option State} {c : Cause} (hready : s.status.ready = true)
    (hbody : body (prologue s) = some (raiseFault c (prologue s))) :
    command body s = .next (s.setStatus (.ofFault true c)) := by
  rw [command, executed, if_pos hready, hbody, ← hready, ← Status.cleared_faulted_completed]
  rfl

/-! ### Refused words -/

theorem execute_of_reject {s : State} {c : Cause} (hdecode : decode s.cmd = .reject c) :
    execute s = rejectCommand c s := by
  simp [execute, hdecode]

/-- Whatever the word in CMD, its Execute step is the command frame around some body (R33, R110). -/
theorem exists_execute_eq_command (s : State) : ∃ body, execute s = command body s := by
  cases hdecode : decode s.cmd with
  | command i => exact ⟨bodyOf i, by rw [execute_of_command hdecode, exec_eq_command]⟩
  | reject c => exact ⟨fun p => some (raiseFault c p), execute_of_reject hdecode⟩

/-- Settles O10: commands and refused words share the command frame, which checks READY before their bodies. -/
theorem notReadyRefusesEveryCommand : Obligations.NotReadyRefusesEveryCommand := by
  intro s hready
  refine ⟨fun i => ?_, fun hbusy rest hturn => ?_⟩
  · rw [exec_eq_command, command_of_notReady hready]
    rfl
  · have hready' : (s.setAgenda rest).status.ready = false := hready
    obtain ⟨body, hbody⟩ := exists_execute_eq_command (s.setAgenda rest)
    rw [step_engine_of_busy hbusy hturn, hbody, command_of_notReady hready']
    rfl

/-- A refused word ends in NOT_READY, or with READY = 1 in the decoder's cause (R222). -/
theorem rejectCommand_eq (c : Cause) (s : State) :
    rejectCommand c s =
      .next (s.setStatus (.ofFault s.status.ready (if s.status.ready = false then .notReady else c))) := by
  cases hready : s.status.ready with
  | false => exact command_of_notReady hready _
  | true => exact command_of_raised hready rfl

/-- Settles O11: the decoder has two causes, and the refused word's Execute step is the command frame around raising one. -/
theorem undecodableWordFaults : Obligations.UndecodableWordFaults := by
  intro s rest c hbusy hturn hdecode
  have hcause := decode_reject_cause hdecode
  have hcode : causeCode (if s.status.ready = false then .notReady else c) =
      if s.status.ready = false then 5 else if c = .illegalOpcode then 1 else 2 := by
    obtain rfl | rfl := hcause <;> split <;> rfl
  have hdecode' : decode (s.setAgenda rest).cmd = .reject c := hdecode
  refine ⟨hcause, ?_⟩
  rw [step_engine_of_busy hbusy hturn, execute_of_reject hdecode', rejectCommand_eq, ← hcode]
  rfl

/-! ### Format X's checks -/

/-- WRREG and RDREG raise the cause that format X's checks find, and transact nothing (R110). -/
theorem exec_of_transferFault {s : State} {reg len : Byte} {c : Cause} (hready : s.status.ready = true)
    (hrefused : transferFault s.cfg.maxXfer reg len = some c) :
    exec (.wrreg reg len) s = .next (s.setStatus (.ofFault true c)) ∧
      exec (.rdreg reg len) s = .next (s.setStatus (.ofFault true c)) := by
  have hrefused' : transferFault (prologue s).cfg.maxXfer reg len = some c := hrefused
  constructor
  all_goals
    rw [exec_eq_command]
    exact command_of_raised hready (by simp only [bodyOf, hrefused'])

/-- Settles O12: format X's checks look at LEN first. -/
theorem badLengthFaults : Obligations.BadLengthFaults :=
  fun _ reg len hready hlength => exec_of_transferFault hready (transferFault_badLength _ reg len hlength)

/-- Settles O13: with a legal LEN format X's checks look at REG + LEN. -/
theorem badRangeFaults : Obligations.BadRangeFaults :=
  fun _ reg len hready hpos hmax hrange =>
    exec_of_transferFault hready (transferFault_badRange _ reg len hpos hmax hrange)

end Sys2Proof.Machine
end

section
/-! The settle hazard (R216, R248): a command that makes its transaction records it exactly if a settle is owed, and one that makes
none leaves it as it was. -/

namespace Sys2Proof.Machine

/-- A transaction adds to the history and is checked for the settle hazard; without one neither happens (R55, R216). -/
inductive HazardOutcome (s t : State) : Prop where
  | untransacted (history : t.history = s.history)
      (hazard : t.modelFaults.settleHazard = s.modelFaults.settleHazard)
  | transacted (e : Event) (later : List Event) (history : t.history = s.history ++ e :: later)
      (hazard : HazardChecked s t)

/-- Either way the record of the hazard is as R216 says. -/
theorem HazardOutcome.settleHazard_iff {s t : State} (h : HazardOutcome s t) :
    t.modelFaults.settleHazard = true ↔
      s.modelFaults.settleHazard = true ∨ (s.settleOwed = true ∧ t.history ≠ s.history) := by
  cases h with
  | untransacted history hazard => simp [history, hazard]
  | transacted e later history hazard => simp [history, congrArg ModelFaults.settleHazard hazard]

section Bodies
variable {i : Instr} {s t : State}

/-- A query's read is its transaction; the writers of its result add nothing to the history or the record (R180). -/
theorem hazardOutcome_query {reg : Byte} {n : Nat} {decoded : List Byte → State → State} {dflt : State → State}
    (h : query reg n decoded dflt s = some t) (hdecoded : ∀ bytes u, SameOutsideResults u (decoded bytes u))
    (hdflt : ∀ u, SameOutsideResults u (dflt u)) : HazardOutcome s t := by
  obtain ⟨bytes, -, rfl⟩ | ⟨-, rfl⟩ := query_cases h
  · exact .transacted _ [] (hdecoded bytes _).history (hdecoded bytes _).modelFaults
  · exact .transacted _ [] (hdflt _).history (hdflt _).modelFaults

theorem hazardOutcome_controlWrite {reg value : Byte} (h : controlWrite reg value s = some t) : HazardOutcome s t := by
  obtain ⟨r, -, rfl⟩ := controlWrite_cases h
  refine .transacted (.busWrite s.devAddr reg [value] r) [.settle s.cfg.settleMs] ?_ ?_
  · simp [settle, noteWrite_eq]
  · rw [noteWrite_eq]
    rfl

/-- WRREG's check comes with its write; without a payload it records NoValue alone (R218; log 4). -/
theorem hazardOutcome_rawWrite {reg len : Byte} (h : rawWrite reg len s = some t) : HazardOutcome s t := by
  obtain ⟨-, rfl⟩ | ⟨-, r, u, -, rfl, rfl⟩ := rawWrite_cases h
  · exact .untransacted rfl rfl
  · rw [noteWrite_eq]
    exact .transacted _ [] rfl rfl

theorem hazardOutcome_rawRead {reg len : Byte} (h : rawRead reg len s = some t) : HazardOutcome s t := by
  obtain ⟨bytes, -, rfl⟩ | ⟨-, rfl⟩ := rawRead_cases h
  · exact .transacted _ [] rfl rfl
  · exact .transacted _ [] rfl rfl

/-- Faults, decoders and a rejected mode transact nothing; every other body is one of the four above. -/
theorem BodyResult.hazardOutcome (h : BodyResult i s t) : HazardOutcome s t := by
  cases h with
  | fault | deccoord | dectriple | rejected => exact .untransacted rfl rfl
  | wrreg _ _ _ _ _ body => exact hazardOutcome_rawWrite body
  | rdreg _ _ _ _ _ body => exact hazardOutcome_rawRead body
  | control _ _ _ _ _ _ body => exact hazardOutcome_controlWrite body
  | date _ _ body
  | time _ _ body =>
    exact hazardOutcome_query body (fun _ => sameOutsideResults_setFields _ _ _) (sameOutsideResults_setFields _ _ _)
  | coordinate _ _ _ _ _ _ body =>
    exact hazardOutcome_query body sameOutsideResults_writeCoordinate (sameOutsideResults_defaultCoordinate _)
  | count _ _ _ _ _ body
  | triple _ _ _ _ _ body =>
    exact hazardOutcome_query body (fun _ => sameOutsideResults_setRational _ _) (sameOutsideResults_setRational _ _)

end Bodies

/-- NOT_READY and a bus that never answers transact nothing; the prologue and the epilogue write STATUS alone (R92, R110, R111). -/
theorem exec_hazardOutcome {i : Instr} {s t : State} (h : exec i s = .next t) : HazardOutcome s t := by
  obtain ⟨-, rfl⟩ | ⟨-, rfl⟩ | ⟨-, u, hu, rfl⟩ := exec_cases h
  · exact .untransacted rfl rfl
  · exact .untransacted rfl rfl
  · cases (bodyOf_cases hu).hazardOutcome with
    | untransacted history hazard => exact .untransacted history hazard
    | transacted e later history hazard => exact .transacted e later history hazard

/-- Settles O33: the history grows exactly when the hazard is checked. -/
theorem settleHazardRecordedExactlyOnEarlyTransaction : Obligations.SettleHazardRecordedExactlyOnEarlyTransaction :=
  fun _ _ _ h => (exec_hazardOutcome h).settleHazard_iff

end Sys2Proof.Machine
end

section
/-! The host's forbidden accesses while BUSY (R217), as cases of what a busy engine allows (R33, R249). -/

namespace Sys2Proof.Machine

/-- Settles O46: the writes of R217 are writes while BUSY, and its reads are of registers that no busy engine lets the host read
(O59). -/
theorem busyAccessRecordsHostWhileBusy : Obligations.BusyAccessRecordsHostWhileBusy := by
  intro s rest offset r w hbusy haligned hr haccess
  refine busyAllowsOnlyItsReads s rest offset w hbusy haligned ?_
  obtain ⟨hturn, -⟩ | ⟨hturn, hread⟩ := haccess
  · exact .inl hturn
  · have hclosed : r ≠ .cmd ∧ r ≠ .status ∧ r ≠ .devAddr := by
      obtain rfl | rfl | rfl | rfl | rfl | rfl | ⟨i, rfl⟩ | ⟨i, rfl⟩ := hread <;> simp
    subst hr
    exact .inr ⟨hturn, hclosed⟩

end Sys2Proof.Machine
end

section
/-! The host's delay (R247). -/

namespace Sys2Proof.Machine

/-- SETTLE_OWED outlasts a delay only while the delay stays below SETTLE_MS (R247). -/
theorem owed_and_short_eq_ite (owed : Bool) (ms settleMs : Nat) :
    (owed && decide (ms < settleMs)) = if settleMs ≤ ms then false else owed := by
  by_cases hlong : settleMs ≤ ms
  · simp [hlong, Nat.not_lt.mpr hlong]
  · simp [hlong, Nat.lt_of_not_le hlong]

/-- A delay writes the history and SETTLE_OWED alone (R247). -/
theorem hostDelay_eq (ms : Nat) (s : State) :
    hostDelay ms s = { s with
      history := s.history ++ [.delay ms]
      settleOwed := if s.cfg.settleMs ≤ ms then false else s.settleOwed } :=
  congrArg (s.log (.delay ms)).setSettleOwed (owed_and_short_eq_ite s.settleOwed ms s.cfg.settleMs)

/-- Settles O48: a delay is the host's turn whatever the engine does, and its two writes are those of R247. -/
theorem delayClearsSettleOwed : Obligations.DelayClearsSettleOwed := by
  intro s rest ms hturn
  calc step s = .next (hostDelay ms (s.setAgenda rest)) := step_host (by simp) hturn
    _ = _ := congrArg _ (hostDelay_eq ms (s.setAgenda rest))

end Sys2Proof.Machine
end
